-- ==== Sys2Proof/Word.lean ====
section
/-! DEFINITION. The plain words of the model: bytes, wrapping counters, the bounded indices of the part's records
(R21, R30, R43, R48, R136) and vectors of three coordinates in the ring frame (R1, R8). -/

namespace Sys2Proof

/-- One byte of a frame or of the configuration image (R200). -/
abbrev Byte := BitVec 8

/-- A 32-bit counter or clock that wraps (R154, R190, R193). -/
abbrev Counter := BitVec 32

/-- An axis, 0 to 11 (R21). -/
abbrev AxisId := Fin 12

/-- A flyer, F0 to F3 (R30). -/
abbrev FlyerId := Fin 4

/-- A formation, 0 or 1 (R43). -/
abbrev FormationId := Fin 2

/-- A keep-out zone, 0 to 7 (R48). -/
abbrev ZoneId := Fin 8

/-- A drive port, D0 to D5 (R136). -/
abbrev PortId := Fin 6

/-- The flyers in flyer number order. -/
def allFlyers : List FlyerId := [0, 1, 2, 3]

/-- The axes in axis number order. -/
def allAxes : List AxisId := [0, 1, 2, 3, 4, 5, 6, 7, 8, 9, 10, 11]

/-- The zones in zone order. -/
def allZones : List ZoneId := [0, 1, 2, 3, 4, 5, 6, 7]

/-- The drive ports in port order. -/
def allPorts : List PortId := [0, 1, 2, 3, 4, 5]

/-- The two formation records in order. -/
def allFormations : List FormationId := [0, 1]

/-- Three coordinates in the ring frame, or a rig's held coordinates: VERTICAL flyers use z alone, PLANAR flyers
use x for s and z, and the unused ones are 0 (R8). The unit is that of the quantity held (R2). -/
structure Vec3 where
  x : Int
  y : Int
  z : Int
deriving DecidableEq, Repr

/-- The vector (0, 0, 0). -/
def Vec3.zero : Vec3 := ⟨0, 0, 0⟩

/-- Componentwise sum. -/
def Vec3.add (a b : Vec3) : Vec3 := ⟨a.x + b.x, a.y + b.y, a.z + b.z⟩

/-- Componentwise difference. -/
def Vec3.sub (a b : Vec3) : Vec3 := ⟨a.x - b.x, a.y - b.y, a.z - b.z⟩

/-- Every component multiplied by one factor. -/
def Vec3.scale (k : Int) (a : Vec3) : Vec3 := ⟨k * a.x, k * a.y, k * a.z⟩

/-- One function applied to every component. -/
def Vec3.map (g : Int → Int) (a : Vec3) : Vec3 := ⟨g a.x, g a.y, g a.z⟩

/-- Dot product. -/
def Vec3.dot (a b : Vec3) : Int := a.x * b.x + a.y * b.y + a.z * b.z

/-- Sum of the squares of the components. -/
def Vec3.sq (a : Vec3) : Int := a.dot a

/-- Horizontal cross-product a·d − b·c (R10). -/
def Vec3.cross (a b : Vec3) : Int := a.x * b.y - a.y * b.x

end Sys2Proof
end

