-- ==== Sys2Proof/Config.lean ====
section
/-! DEFINITION. What the part fixes as constants, and the free values: what the manual leaves open and the machine
goes on after. A free value is an opaque constant, so nothing can be proved of it (log entries 5, 6, 11, 12). -/

namespace Sys2Proof.Config

/-- Places in the fault log (R172). -/
def logPlaces : Nat := 24

/-- Responses a station port queues (R175, R176). -/
def queuePlaces : Nat := 4

/-- Record places of the pool (R65). -/
def poolPlaces : Nat := 4096

/-- Entries of the cue directory (R64). -/
def directoryPlaces : Nat := 128

/-- Entries of a run stack or an expansion stack (R85, R101). -/
def stackPlaces : Nat := 4

/-- Distinct cues of a reach set (R85). -/
def reachPlaces : Nat := 5

/-- Entries of the expanded move list (R86). -/
def movePlaces : Nat := 1024

/-- Segments of the lookahead window after the current one (R110). -/
def lookaheadAfter : Nat := 7

/-- The silence timeout of a station link, in ms (R175). -/
def silenceMs : Nat := 250

/-- The brake release count, in ms (R4, R37). -/
def brakeMs : Nat := 1000

/-- The validity of a JOG velocity, in ms (R4, R125). -/
def jogMs : Nat := 200

/-- The guard distance of the segment tests, in µm (R50, R51). -/
def guardMicrons : Int := 2

/-- Records one run of the record interpreter, or one expansion, is followed for. Each walk of a run that the
pre-flight check accepted is shorter: a stack of at most 4 entries, cues of at most 250 records, counts of at most
255 (R85, R101; log entry 10). -/
def walkBound : Nat := 1000000000000000000000000

/-- Bytes of the configuration image (R205). -/
def imageBytes : Nat := 578

/-- Bytes of the image before its CRC field (R200, R205). -/
def imageBody : Nat := 574

/-- The request codes that name a request (R201). -/
def requestCodes : List Nat :=
  [0x01, 0x02, 0x03, 0x04, 0x05, 0x06, 0x07, 0x10, 0x11, 0x20, 0x21, 0x22, 0x23, 0x24, 0x25, 0x28, 0x29, 0x2C, 0x2D,
   0x30, 0x31, 0x40, 0x41, 0x42, 0x43, 0x44, 0x45, 0x50, 0x51, 0x52, 0x53, 0x54, 0x55, 0x56, 0x57, 0x60]

/-- FREE VALUE. Whether the cut-off expiry of a motion frame reaches a flyer before the trajectory unit's commit for it
on that frame: the manual says either may be taken first (R165; log entry 5). -/
opaque cutoffFirst : Nat → FlyerId → Bool

/-- FREE VALUE. The rank by which the drive ports take a motion frame on which their order decides something
(R137, R151; log entry 6). -/
opaque portRank : Nat → PortId → Nat

/-- FREE VALUE. What the image area holds after a save that failed in its third operation (R198; log entry 11). -/
opaque flashResidue : Nat → List Byte

/-- FREE VALUE. The 32-bit detail that a MEMBER_STOP log entry is sent with: the manual gives it two things to name
and one number to name them with (R156, R202; log entry 12). -/
opaque memberStopDetail : Nat → Nat → Int

end Sys2Proof.Config
end

