-- ==== Sys2Proof/Syntax.lean ====
section
/-! DEFINITION. The commands of the part: one constructor of `Instr` for each row of spec/opcode_table.json, with the
fields its frame carries (R201, R203, R204). A field that the part tests against a range is held as the number the
frame carries, so that the test is the machine's. -/

namespace Sys2Proof

/-- The two stations (R175). -/
inductive Station where
  /-- Station A. -/
  | a
  /-- Station B. -/
  | b
deriving DecidableEq, Repr

/-- What every valid request frame carries beside its fields (R176, R177, R201). -/
structure Req where
  /-- The station port the frame arrived at. -/
  st : Station
  /-- The request tag. -/
  tag : Nat
  /-- The enable flag. -/
  enable : Bool
  /-- The frame's length is the one the request's fields need. Where it is not, the request is answered BAD_FRAME
  and the field operands stand for nothing (R177). -/
  fits : Bool
deriving DecidableEq, Repr

/-- The parameter set of an axis (R21), in the units of its table: mm, counts per metre, mm/s, counts and N. -/
structure AxisParams where
  /-- Anchor, mm. -/
  anchor : Vec3
  /-- Zero length L0, mm. -/
  l0 : Nat
  /-- Counts per metre K. -/
  k : Nat
  /-- Lmin, mm. -/
  lmin : Nat
  /-- Lmax, mm. -/
  lmax : Nat
  /-- Line speed Vline, mm/s. -/
  vline : Nat
  /-- Following-error limit, counts. -/
  feLimit : Nat
  /-- Load max, N. -/
  loadMax : Nat
  /-- Slack threshold, N. -/
  slackMin : Nat
deriving DecidableEq, Repr

/-- The fields of SET_FLYER after the flyer number (R31, R201). -/
structure FlyerFields where
  /-- Member count. -/
  count : Nat
  /-- The four member bytes, 255 where unused. -/
  members : List Nat
  /-- Vp, mm/s. -/
  vp : Nat
  /-- Ap, mm/s². -/
  ap : Nat
  /-- Astop, mm/s². -/
  astop : Nat
  /-- Minimum drop, mm. -/
  drop : Nat
  /-- Locate tolerance, mm. -/
  tol : Nat
  /-- Minimum corner of the flying volume, mm. -/
  vmin : Vec3
  /-- Maximum corner of the flying volume, mm. -/
  vmax : Vec3
deriving DecidableEq, Repr

/-- The fields of SET_FORMATION after the formation number (R43, R201). -/
structure FormationFields where
  /-- Leader. -/
  leader : Nat
  /-- Follower count. -/
  count : Nat
  /-- The three follower entries: flyer and offset, 255 and 0 where unused. -/
  followers : List (Nat × Vec3)
deriving DecidableEq, Repr

/-- The fields of SET_ZONE after the zone number (R56, R201). -/
structure ZoneFields where
  /-- The enabled byte. -/
  enabled : Nat
  /-- Minimum corner, mm. -/
  vmin : Vec3
  /-- Maximum corner, mm. -/
  vmax : Vec3
  /-- The mask byte, bit n for Fn. -/
  mask : Nat
deriving DecidableEq, Repr

/-- A cue record as its 18 bytes give it (R204): the bytes that its kind does not use are stored as received. -/
structure CueRecord where
  /-- Byte 0. -/
  kind : Nat
  /-- Byte 1. -/
  flags : Nat
  /-- Bytes 2 and 3. -/
  w2 : Nat
  /-- Bytes 4 and 5. -/
  w4 : Nat
  /-- Bytes 6 to 17, mm. -/
  pos : Vec3
deriving DecidableEq, Repr

/-- The fields of CUE_SEGMENT (R67, R201). The record count is the number of records the frame carries. -/
structure SegmentFields where
  /-- Cue number of the header. -/
  num : Nat
  /-- Record total of the header. -/
  total : Nat
  /-- Rig kind code of the header. -/
  kind : Nat
  /-- The FIRST flag. -/
  first : Bool
  /-- The LAST flag. -/
  last : Bool
  /-- Segment index. -/
  index : Nat
  /-- The records. -/
  recs : List CueRecord
deriving DecidableEq, Repr

/-- What a feedback frame reports for one slot (R141, R203), and the latest feedback an axis holds (R136). -/
structure Feedback where
  /-- Drum position, counts. -/
  counts : Int
  /-- Line load, N. -/
  load : Nat
  /-- Position valid. -/
  posValid : Bool
  /-- Brake released. -/
  brakeReleased : Bool
  /-- Drive fault. -/
  driveFault : Bool
  /-- Drive warning. -/
  driveWarning : Bool
deriving DecidableEq, Repr

/-- The commands and events of the part, in the order of spec/opcode_table.json. -/
inductive Instr where
  /-- READ_STATUS (R186). -/
  | readStatus (q : Req)
  /-- READ_FLYER (R187). -/
  | readFlyer (q : Req) (flyer : Nat)
  /-- READ_AXIS (R188). -/
  | readAxis (q : Req) (axis : Nat)
  /-- READ_ZONE (R189). -/
  | readZone (q : Req) (zone : Nat)
  /-- READ_CUE (R79). -/
  | readCue (q : Req) (cue : Nat) (start : Nat)
  /-- READ_LOG (R189). -/
  | readLog (q : Req) (start : Nat)
  /-- READ_COUNTERS (R190). -/
  | readCounters (q : Req)
  /-- CLAIM_FLYER (R183). -/
  | claimFlyer (q : Req) (flyer : Nat)
  /-- RELEASE_FLYER (R184). -/
  | releaseFlyer (q : Req) (flyer : Nat)
  /-- SET_AXIS (R22). -/
  | setAxis (q : Req) (axis : Nat) (params : AxisParams)
  /-- SET_FLYER (R31). -/
  | setFlyer (q : Req) (flyer : Nat) (fields : FlyerFields)
  /-- CLEAR_FLYER (R33). -/
  | clearFlyer (q : Req) (flyer : Nat)
  /-- SET_FORMATION (R43). -/
  | setFormation (q : Req) (formation : Nat) (fields : FormationFields)
  /-- CLEAR_FORMATION (R44). -/
  | clearFormation (q : Req) (formation : Nat)
  /-- LOCATE (R36). -/
  | locate (q : Req) (flyer : Nat) (point : Vec3)
  /-- SET_ZONE (R56). -/
  | setZone (q : Req) (zone : Nat) (fields : ZoneFields)
  /-- SET_SEPARATION (R55). -/
  | setSeparation (q : Req) (dsep : Nat)
  /-- WRITE_SLOTS (R149). -/
  | writeSlots (q : Req) (port : Nat) (slot0 : Nat) (slot1 : Nat)
  /-- SWAP_SLOTS (R150). -/
  | swapSlots (q : Req) (port : Nat)
  /-- CUE_SEGMENT (R67). -/
  | cueSegment (q : Req) (seg : SegmentFields)
  /-- DELETE_CUE (R78). -/
  | deleteCue (q : Req) (cue : Nat)
  /-- START_CUE (R81). -/
  | startCue (q : Req) (flyer : Nat) (cue : Nat)
  /-- HOLD (R39, R120). -/
  | hold (q : Req) (flyer : Nat)
  /-- RESUME (R121). -/
  | resume (q : Req) (flyer : Nat)
  /-- GO (R105). -/
  | go (q : Req) (flyer : Nat)
  /-- STOP_FLYER (R122, R135). -/
  | stopFlyer (q : Req) (flyer : Nat)
  /-- JOG (R125); the velocity is in mm/s. -/
  | jog (q : Req) (flyer : Nat) (velocity : Vec3)
  /-- STOP_ALL (R162). -/
  | stopAll (q : Req)
  /-- RELEASE_ALL_STOP (R166). -/
  | releaseAllStop (q : Req)
  /-- RAISE_ALARM (R168). -/
  | raiseAlarm (q : Req) (number : Nat) (cls : Nat) (flyer : Nat)
  /-- CLEAR_FAULT (R170). -/
  | clearFault (q : Req) (flyer : Nat)
  /-- CLEAR_AXIS (R171). -/
  | clearAxis (q : Req) (axis : Nat)
  /-- SET_LOG_MODE (R173). -/
  | setLogMode (q : Req) (mode : Nat)
  /-- CLEAR_LOG (R173). -/
  | clearLog (q : Req)
  /-- SET_TIMING (R196). -/
  | setTiming (q : Req) (period : Nat) (cutoff : Nat)
  /-- SAVE_CONFIG (R197). -/
  | saveConfig (q : Req)
  /-- UNKNOWN_REQUEST (R177): a valid frame whose request code names no request. -/
  | unknownRequest (q : Req) (code : Nat)
  /-- STATION_FRAME_DISCARDED (R176): a frame that fails the length or CRC-16 test. -/
  | stationFrameDiscarded (st : Station)
  /-- RESPONSE_QUEUE_FULL (R176): a valid frame that finds four responses queued. -/
  | responseQueueFull (st : Station) (enable : Bool)
  /-- RESPONSE_SENT (R177): the last byte of the response at the head of the queue has been sent. -/
  | responseSent (st : Station)
  /-- SILENCE_TIMER_EXPIRY (R179). -/
  | silenceTimerExpiry (st : Station)
  /-- MOTION_FRAME (R108, R137). -/
  | motionFrame
  /-- FEEDBACK_FRAME (R140, R141): a frame of the right length and CRC-16 at a drive port. -/
  | feedbackFrame (port : PortId) (echo : Nat) (slot0 : Feedback) (slot1 : Feedback)
  /-- FEEDBACK_DISCARDED (R140). -/
  | feedbackDiscarded (port : PortId)
  /-- FEEDBACK_LOST (R142): the miss of a port that takes its miss count to 3. -/
  | feedbackLost (port : PortId)
  /-- BRAKE_TIMEOUT (R99): the brake release count of a flyer in RELEASING runs out. -/
  | brakeTimeout (flyer : FlyerId)
  /-- DWELL_END (R104): the dwell count of a flyer in DWELLING reaches 0. -/
  | dwellEnd (flyer : FlyerId)
  /-- JOG_VALIDITY_EXPIRY (R127): the validity count of a jog reaches 0. -/
  | jogValidityExpiry (flyer : FlyerId)
  /-- CUTOFF (R165): the all-stop cut-off count reaches 0. -/
  | cutoff
  /-- ESTOP_CHAIN (R162): the stop chain input opens. -/
  | estopChain
  /-- STOP_CHAIN_CLOSED (R167): the stop chain input closes. -/
  | stopChainClosed
  /-- POWER_ON_RESET (R192). -/
  | powerOnReset
  /-- WARM_RESET (R192). -/
  | warmReset
  /-- START_UP_END (R192); `answers` says whether the flash answers the reads of the image (R194). -/
  | startUpEnd (answers : Bool)
  /-- FLASH_OPERATION_DONE (R198); `data` is what the read-back of the image returned, used by the last operation
  of a save. -/
  | flashOperationDone (data : List Byte)
  /-- SAVE_BUSY_TIMEOUT (R198). -/
  | saveBusyTimeout
  /-- SHOW_CLOCK_TICK (R193). -/
  | showClockTick
deriving DecidableEq, Repr

end Sys2Proof
end

