-- ==== Sys2Proof/Decode.lean ====
section
/-! DEFINITION. The words of spec/opcode_table.json: every row of the table is given without bits (its "fields" are
empty and it has no "fixed" part), so no word spells a command. The byte frames that the links carry (R201, R203)
are read by Sys2Proof/Machine/Frames.lean. -/

namespace Sys2Proof

/-- The command that a word of the table spells: the table gives no row any bits, so none. -/
def decodeTableWord (_nbits _w : Nat) : Option Instr := none

end Sys2Proof
end

