-- ==== Sys2Proof/Machine/State.lean ====
section
/-! DEFINITION. Everything the part holds, as plain data: the records of the rig table, the airspace, the cue store,
the run contexts, the drive ports, the stop and fault unit, the station ports and the grant table, the start-up and
image block, the pins it reads and drives, and the queue of commands that wait. -/

namespace Sys2Proof.Machine

/-! ## Names (R202) -/

/-- Rig kinds (R8). -/
inductive RigKind where
  | vertical | planar | spatial3 | spatial4
deriving DecidableEq, Repr

/-- Phases of CUE_RUN and HELD (R34, R96). -/
inductive Phase where
  | moving | dwelling | waiting
deriving DecidableEq, Repr

/-- Reasons of STOPPING (R34, R40). -/
inductive StopReason where
  | request | fault | allStop
deriving DecidableEq, Repr

/-- Flyer states (R34), with the phase of CUE_RUN and HELD and the reason of STOPPING. -/
inductive FlyerState where
  | undefined | unready | unlocated | parked | releasing
  | cueRun (p : Phase)
  | holding
  | held (p : Phase)
  | jogging
  | stopping (r : StopReason)
  | faulted
deriving DecidableEq, Repr

/-- Axis states (section 2.2). -/
inductive AxisState where
  | unmapped | unreferenced | ready | engaged | faulted
deriving DecidableEq, Repr

/-- Fault codes, in the order of the table of R156. -/
inductive FaultCode where
  | driveFault | positionLost | feedbackLost | followingError | pathGeometry | overload | slack | separation
  | brakeTimeout | memberStop | stationAlarm | estopChain | stationStop | cutoff | driveWarning | linkLost
  | slotSwapDropped | imageDefaults | imageItemReplaced | saveFailed
deriving DecidableEq, Repr

/-- Fault classes (R156). -/
inductive FaultClass where
  | note | flyerStop | flyerDead | allStop
deriving DecidableEq, Repr

/-- Fault log modes (R172). -/
inductive LogMode where
  | newest | first | off
deriving DecidableEq, Repr

/-- Link states of a station port (R175). -/
inductive LinkState where
  | down | up | lost
deriving DecidableEq, Repr

/-- Image states (section 11.3). -/
inductive ImageState where
  | idle | saving | saved | saveFailed
deriving DecidableEq, Repr

/-- Result codes (R180, R202). -/
inductive ResultCode where
  | done | accepted | badFrame | unknown | badValue | notOwner | owned | busy | noEnable | allStop | notReady
  | noCue | inUse | storeFull | uploadOrder | uploadMismatch | preflight | occupied
deriving DecidableEq, Repr

/-- Check kinds (R91, R36). -/
inductive CheckKind where
  | missingCue | rigKind | depth | reach | length | volume | zone | footprint | drop | lineMax | lineMin
  | engageMismatch | locateMismatch
deriving DecidableEq, Repr

/-- Places of a PREFLIGHT report (R91). -/
inductive Place where
  | expansion | start | waypoint | segment | engagement
deriving DecidableEq, Repr

/-- Kinds of the named items of a detail block (R202). -/
inductive ItemKind where
  | flyer | axis | zone | port | cue | expectedIndex | recordsSoFar | recordTotal | poolFree | directory
  | recordIndex | pathSegment | formation | station | checkKind
deriving DecidableEq, Repr

/-- Motion kind of a run (R96). -/
inductive MotionKind where
  | path | jog
deriving DecidableEq, Repr

/-- Pending start of a run in RELEASING (R96). -/
inductive PendingStart where
  | cue | jog
deriving DecidableEq, Repr

/-- Role of a flyer in a formation (R30). -/
inductive Role where
  | leader | follower
deriving DecidableEq, Repr

/-- Where the part stands with respect to its resets (R192): running, or in the start-up that follows a power-on
reset or a warm reset. -/
inductive Startup where
  | running | powerOn | warm
deriving DecidableEq, Repr

/-! ## Faults -/

/-- The detail of a log entry (R156): nothing, one number, or, for MEMBER_STOP, the member that faulted and its
code. -/
inductive Detail where
  | none
  | number (n : Int)
  | member (f : FlyerId) (c : FaultCode)
deriving DecidableEq, Repr

/-- A fault cause (R157), and the source of an all-stop (R162). -/
structure Cause where
  code : FaultCode
  axis : Option AxisId
  station : Option Station
  detail : Detail
deriving DecidableEq, Repr

/-- An entry of the fault log (R172). The port stands beside the fields of R172 because R151 has SLOT_SWAP_DROPPED
name it (log entry 12). -/
structure LogEntry where
  time : Counter
  code : FaultCode
  cls : FaultClass
  flyer : Option FlyerId
  axis : Option AxisId
  station : Option Station
  port : Option PortId
  detail : Detail
deriving DecidableEq, Repr

/-! ## Rig table -/

/-- An axis record (R21, R27, R97, R136). -/
structure Axis where
  /-- Parameter set. -/
  params : Option AxisParams
  /-- Axis state. -/
  state : AxisState
  /-- Fault cause. -/
  cause : Option FaultCode
  /-- Outgoing set-point, counts. -/
  outgoing : Int
  /-- Set-point history, current. -/
  current : Int
  /-- Set-point history, previous. -/
  previous : Int
  /-- Committed length, µm. -/
  committed : Option Int
  /-- Latest feedback. -/
  feedback : Option Feedback
  /-- Slack persistence count. -/
  slack : Nat
deriving DecidableEq, Repr

/-- A closed box in ring millimetres (R47, R48). -/
structure Box where
  lo : Vec3
  hi : Vec3
deriving DecidableEq, Repr

/-- A flyer's definition (R30). -/
structure FlyerDef where
  members : List AxisId
  vp : Nat
  ap : Nat
  astop : Nat
  drop : Nat
  tol : Nat
  volume : Box
deriving DecidableEq, Repr

/-- The rig constants of a defined flyer (R11), in µm. -/
structure RigConsts where
  h12 : Option Int
  ceiling : Int
deriving DecidableEq, Repr

/-- An entry of a run stack or of an expansion stack (R84, R96). -/
inductive StackEntry where
  /-- A return entry: the cue and the record to continue at. -/
  | ret (cue : Nat) (record : Nat)
  /-- A repeat entry: the cue, the body start and the remaining count. -/
  | rep (cue : Nat) (body : Nat) (remaining : Nat)
deriving DecidableEq, Repr

/-- A path segment (R96, R102): start and end in nm, length in nm, cap in µm/s, and the record of its MOVE. -/
structure Segment where
  start : Vec3
  stop : Vec3
  len : Int
  cap : Int
  isStop : Bool
  cue : Nat
  record : Nat
deriving DecidableEq, Repr

/-- A run context (R96, R124). The phase and the stop reason stand in the flyer state. -/
structure Run where
  pending : Option PendingStart
  kind : MotionKind
  /-- Started cue. -/
  cue : Option Nat
  /-- Reach set (R93), held in the order the expansion met the numbers (DESIGN CHOICE: log entry 13). -/
  reach : List Nat
  /-- Record position: cue number. -/
  posCue : Nat
  /-- Record position: index of the next record. -/
  posRecord : Nat
  /-- Run stack, top first. -/
  stack : List StackEntry
  /-- Current segment. -/
  seg : Option Segment
  /-- Progress d, nm; 0 while there is no current segment (DESIGN CHOICE: log entry 42). -/
  d : Int
  /-- Speed v, µm/s. -/
  v : Int
  /-- Dwell count, motion frames. -/
  dwell : Nat
  /-- Brake release count, motion frames. -/
  brake : Nat
  /-- Requested jog velocity, µm/s. -/
  jogReq : Vec3
  /-- Jog validity count, motion frames. -/
  jogValid : Nat
  /-- Flyer velocity V of a jog, µm/s. -/
  jogV : Vec3
deriving DecidableEq, Repr

/-- A flyer record (R30). -/
structure Flyer where
  defn : Option FlyerDef
  rig : Option RigConsts
  state : FlyerState
  located : Bool
  /-- The point in the coordinates of the rig kind, nm. -/
  point : Option Vec3
  run : Option Run
  mark : Nat
  markCount : Nat
  governed : Bool
  atLimit : Bool
  cause : Option Cause
  /-- Stands FAULTED after a dead stop, holding its frozen point (R30, R41; log entry 20). -/
  frozen : Bool
deriving DecidableEq, Repr

/-- A formation record that is not empty (R43); the offsets are in mm. -/
structure Formation where
  leader : FlyerId
  followers : List (FlyerId × Vec3)
deriving DecidableEq, Repr

/-- A grant table entry (R183). -/
structure Grant where
  owner : Option Station
  /-- Release-at-rest mark. -/
  mark : Bool
deriving DecidableEq, Repr

/-! ## Airspace and cue store -/

/-- A zone record (R48). -/
structure Zone where
  enabled : Bool
  box : Box
  /-- Bit n stands for Fn. -/
  mask : BitVec 4
deriving DecidableEq, Repr

/-- A directory entry (R64). The record count is the number of its records. -/
structure Cue where
  num : Nat
  kind : RigKind
  recs : List CueRecord
deriving DecidableEq, Repr

/-- An open upload context (R66). -/
structure Upload where
  num : Nat
  total : Nat
  kind : RigKind
  next : Nat
  recs : List CueRecord
deriving DecidableEq, Repr

/-! ## Drive ports -/

/-- A slot table (R136). -/
structure Slots where
  slot0 : Option AxisId
  slot1 : Option AxisId
deriving DecidableEq, Repr

/-- A drive port (R136, R154). -/
structure Port where
  active : Slots
  shadow : Slots
  /-- Swap pending. -/
  swap : Bool
  /-- Next sequence number. -/
  next : BitVec 8
  /-- Last sequence sent. -/
  last : Option (BitVec 8)
  answered : Bool
  miss : Nat
  sent : Counter
  good : Counter
  discarded : Counter
  missed : Counter
  /-- The last set-point frame put on the link (R203); empty before the first. -/
  line : List Byte
deriving DecidableEq, Repr

/-! ## Responses (R177, R180, R202) -/

/-- A named item: a kind and a value. -/
structure Item where
  kind : ItemKind
  value : Nat
deriving DecidableEq, Repr

/-- A PREFLIGHT report (R91). -/
structure Report where
  kind : CheckKind
  place : Place
  move : Nat
  flyer : FlyerId
  /-- Cue number and record index of the record concerned. -/
  record : Option (Nat × Nat)
  item : Option Item
deriving DecidableEq, Repr

/-- What READ_STATUS returns for one flyer (R186). -/
structure FlyerStatus where
  state : FlyerState
  grant : Grant
  located : Bool
  formation : Option (FormationId × Role)
deriving DecidableEq, Repr

/-- What READ_STATUS returns for one drive port (R186). -/
structure PortStatus where
  active : Slots
  shadow : Slots
  swap : Bool
  miss : Nat
deriving DecidableEq, Repr

/-- What READ_STATUS returns (R186). -/
structure StatusView where
  links : List (LinkState × Bool)
  flyers : List FlyerStatus
  allStop : Option Cause
  cutCount : Nat
  cutoff : Nat
  chainOpen : Bool
  alarm : Bool
  ports : List PortStatus
  t : Nat
  cfgT : Nat
  dsep : Nat
  logMode : LogMode
  logCount : Nat
  image : ImageState
  clock : Counter
deriving DecidableEq, Repr

/-- What READ_FLYER returns for a defined flyer (R187). The run is the leader's for a follower. -/
structure FlyerBody where
  defn : FlyerDef
  kind : RigKind
  rig : Option RigConsts
  located : Bool
  point : Option Vec3
  ring : Option Vec3
  mark : Nat
  markCount : Nat
  governed : Bool
  atLimit : Bool
  cause : Option Cause
  formation : Option (FormationId × Role)
  run : Option Run
  /-- Jog speed, for a jog-kind run. -/
  jogSpeed : Option Nat
deriving DecidableEq, Repr

/-- What READ_FLYER returns (R187). -/
structure FlyerView where
  state : FlyerState
  grant : Grant
  body : Option FlyerBody
deriving DecidableEq, Repr

/-- What READ_AXIS returns (R188). -/
structure AxisView where
  params : Option AxisParams
  state : AxisState
  cause : Option FaultCode
  flyer : Option FlyerId
  /-- Port and slot. -/
  place : Option (PortId × Nat)
  outgoing : Int
  /-- Set-point history, current and previous. -/
  history : Option (Int × Int)
  committed : Option Int
  feedback : Option Feedback
  /-- Measured length, µm. -/
  measured : Option Int
  slack : Nat
deriving DecidableEq, Repr

/-- What READ_CUE returns of one upload context (R79). -/
structure UploadView where
  num : Nat
  total : Nat
  kind : RigKind
  soFar : Nat
  next : Nat
deriving DecidableEq, Repr

/-- What READ_CUE returns for cue number 0 (R79). -/
structure CueSummary where
  entries : Nat
  free : Nat
  present : List Nat
  uploads : List (Option UploadView)
deriving DecidableEq, Repr

/-- What READ_COUNTERS returns (R190): good, discarded and refused of each station, then sent, good, discarded and
missed of each port. -/
structure CountersView where
  stations : List (Counter × Counter × Counter)
  ports : List (Counter × Counter × Counter × Counter)
deriving DecidableEq, Repr

/-- The result fields of a response (R202). -/
inductive ReplyBody where
  /-- No fields. -/
  | empty
  /-- The detail block of a refusal, with the items it names. -/
  | detail (items : List Item)
  /-- A PREFLIGHT report. -/
  | report (r : Report)
  /-- Whether a completing CUE_SEGMENT replaced a cue (R74). -/
  | replaced (b : Bool)
  | status (v : StatusView)
  | flyer (v : FlyerView)
  | axis (v : AxisView)
  | zone (v : Zone)
  | summary (v : CueSummary)
  | cue (kind : RigKind) (count : Nat) (recs : List CueRecord)
  | log (mode : LogMode) (count : Nat) (entries : List LogEntry)
  | counters (v : CountersView)
deriving DecidableEq, Repr

/-- A queued response (R177). -/
structure Response where
  tag : Nat
  code : Nat
  result : ResultCode
  body : ReplyBody
deriving DecidableEq, Repr

/-- A station port (R175). -/
structure StationPort where
  link : LinkState
  enable : Bool
  /-- Silence timer: the time left in ms, where it runs. -/
  silence : Option Nat
  queue : List Response
  upload : Option Upload
  good : Counter
  discarded : Counter
  refused : Counter
  /-- The last response frame put on the link (R201); empty before the first. -/
  line : List Byte
deriving DecidableEq, Repr

/-! ## Flash -/

/-- What the image area of the external flash holds (R194, R198, R199): nothing, the image up to its CRC field with
the CRC field unwritten, or a whole image area (log entry 11). -/
inductive FlashArea where
  | blank
  | body (bytes : List Byte)
  | whole (bytes : List Byte)
deriving DecidableEq, Repr

/-! ## The state -/

/-- The part. -/
structure State where
  /-- Start-up (R192). -/
  startup : Startup
  /-- T in force, ms (R4, R196). -/
  t : Nat
  /-- Configured T, ms (R196). -/
  cfgT : Nat
  /-- Configured cut-off, ms (R165). -/
  cutoff : Nat
  /-- Axis records. -/
  axes : Vector Axis 12
  /-- Flyer records. -/
  flyers : Vector Flyer 4
  /-- Formation records. -/
  formations : Vector (Option Formation) 2
  /-- Grant table. -/
  grants : Vector Grant 4
  /-- Zone records. -/
  zones : Vector Zone 8
  /-- Dsep, mm (R53). -/
  dsep : Nat
  /-- Cue directory, in order of cue number (R64). -/
  dir : List Cue
  /-- Drive ports. -/
  ports : Vector Port 6
  /-- All-stop: absent while inactive, its source while active (R162). -/
  allStop : Option Cause
  /-- Cut-off count (R165). -/
  cutCount : Nat
  /-- Fault log, oldest first (R172). -/
  log : List LogEntry
  /-- Log mode (R172). -/
  logMode : LogMode
  /-- Alarm output asserted (R169). -/
  alarm : Bool
  /-- Stop chain input open (R162). -/
  chainOpen : Bool
  /-- Station port A. -/
  stationA : StationPort
  /-- Station port B. -/
  stationB : StationPort
  /-- Show clock (R193). -/
  clock : Counter
  /-- Image state (section 11.3). -/
  image : ImageState
  /-- The flash operation a save is in, 1 to 4 (R198); 0 while no save is in progress. -/
  saveStep : Nat
  /-- The content a save is writing, fixed at its acceptance (R197). -/
  saveData : List Byte
  /-- The image area of the external flash. -/
  flash : FlashArea
  /-- MODEL. How many free values have been used: the argument of the opaque constants of Config. -/
  free : Nat
  /-- MODEL. The commands that wait, first in first out. -/
  pending : List Instr
deriving DecidableEq, Repr

/-- What stops the machine with a fault: nothing. Every command and event of the manual ends in a state it
describes, so no meaning answers with a fault and the type has no constructor. -/
inductive Fault where
deriving DecidableEq, Repr

/-- What the machine has no meaning for. -/
inductive Refusal where
  /-- Raised by an arm of `exec` for a command that has no meaning yet; no arm raises it. Safe: a claim about such a
  command could not be proved. -/
  | notModelled (mnemonic : String)
deriving DecidableEq, Repr

/-! ## Reset values -/

/-- An axis record with no parameter set, in no slot (R46, R155). -/
def Axis.initial : Axis :=
  { params := none, state := .unmapped, cause := none, outgoing := 0, current := 0, previous := 0, committed := none,
    feedback := none, slack := 0 }

/-- An UNDEFINED flyer (R46). -/
def Flyer.initial : Flyer :=
  { defn := none, rig := none, state := .undefined, located := false, point := none, run := none, mark := 0,
    markCount := 0, governed := false, atLimit := false, cause := none, frozen := false }

/-- No owner, mark clear (R191). -/
def Grant.initial : Grant := { owner := none, mark := false }

/-- A disabled zone with zero corners and an empty mask (R60). -/
def Zone.initial : Zone := { enabled := false, box := ⟨Vec3.zero, Vec3.zero⟩, mask := 0 }

/-- Both slots empty (R155). -/
def Slots.initial : Slots := ⟨none, none⟩

/-- A drive port before its first send, with empty slot tables (R155). -/
def Port.initial : Port :=
  { active := Slots.initial, shadow := Slots.initial, swap := false, next := 0, last := none, answered := false,
    miss := 0, sent := 0, good := 0, discarded := 0, missed := 0, line := [] }

/-- A station port after either reset (R191). -/
def StationPort.initial : StationPort :=
  { link := .down, enable := false, silence := none, queue := [], upload := none, good := 0, discarded := 0,
    refused := 0, line := [] }

/-- The part right after a power-on reset, its start-up not yet run: the image has not been read, so every
configuration item stands at its default (R46, R60, R80, R155, R174, R191, R192, R194, R199). The stop chain is
closed and the flash area blank (log entry 2). -/
def State.reset : State :=
  { startup := .powerOn, t := 4, cfgT := 4, cutoff := 1500, axes := Vector.replicate 12 Axis.initial,
    flyers := Vector.replicate 4 Flyer.initial, formations := Vector.replicate 2 none,
    grants := Vector.replicate 4 Grant.initial, zones := Vector.replicate 8 Zone.initial, dsep := 0, dir := [],
    ports := Vector.replicate 6 Port.initial, allStop := none, cutCount := 0, log := [], logMode := .newest,
    alarm := false, chainOpen := false, stationA := StationPort.initial, stationB := StationPort.initial, clock := 0,
    image := .idle, saveStep := 0, saveData := [], flash := .blank, free := 0, pending := [] }

/-! ## Reading and writing one record -/

/-- The axis record of an axis. -/
def State.axis (s : State) (a : AxisId) : Axis := s.axes[a]

/-- The flyer record of a flyer. -/
def State.flyer (s : State) (f : FlyerId) : Flyer := s.flyers[f]

/-- A formation record. -/
def State.formation (s : State) (n : FormationId) : Option Formation := s.formations[n]

/-- The grant table entry of a flyer. -/
def State.grant (s : State) (f : FlyerId) : Grant := s.grants[f]

/-- A zone record. -/
def State.zone (s : State) (z : ZoneId) : Zone := s.zones[z]

/-- A drive port. -/
def State.port (s : State) (p : PortId) : Port := s.ports[p]

/-- A station port. -/
def State.station (s : State) : Station → StationPort
  | .a => s.stationA
  | .b => s.stationB

/-- Replaces an axis record. -/
def State.setAxis (s : State) (a : AxisId) (x : Axis) : State := { s with axes := s.axes.set a x }

/-- Replaces a flyer record. -/
def State.setFlyer (s : State) (f : FlyerId) (x : Flyer) : State := { s with flyers := s.flyers.set f x }

/-- Replaces a formation record. -/
def State.setFormation (s : State) (n : FormationId) (x : Option Formation) : State :=
  { s with formations := s.formations.set n x }

/-- Replaces a grant table entry. -/
def State.setGrant (s : State) (f : FlyerId) (x : Grant) : State := { s with grants := s.grants.set f x }

/-- Replaces a zone record. -/
def State.setZone (s : State) (z : ZoneId) (x : Zone) : State := { s with zones := s.zones.set z x }

/-- Replaces a drive port. -/
def State.setPort (s : State) (p : PortId) (x : Port) : State := { s with ports := s.ports.set p x }

/-- Replaces a station port. -/
def State.setStation (s : State) : Station → StationPort → State
  | .a, x => { s with stationA := x }
  | .b, x => { s with stationB := x }

end Sys2Proof.Machine
end

