-- ==== Sys2Proof/Machine/Codes.lean ====
section
/-! DEFINITION. The values that names are written with in frames and records (R200, R202). -/

namespace Sys2Proof.Machine

/-- Result codes (R202). -/
def ResultCode.code : ResultCode → Nat
  | .done => 0 | .accepted => 1 | .badFrame => 2 | .unknown => 3 | .badValue => 4 | .notOwner => 5
  | .owned => 6 | .busy => 7 | .noEnable => 8 | .allStop => 9 | .notReady => 10 | .noCue => 11
  | .inUse => 12 | .storeFull => 13 | .uploadOrder => 14 | .uploadMismatch => 15 | .preflight => 16 | .occupied => 17

/-- Item kinds of a detail block (R202). -/
def ItemKind.code : ItemKind → Nat
  | .flyer => 1 | .axis => 2 | .zone => 3 | .port => 4 | .cue => 5 | .expectedIndex => 6 | .recordsSoFar => 7
  | .recordTotal => 8 | .poolFree => 9 | .directory => 10 | .recordIndex => 11 | .pathSegment => 12
  | .formation => 13 | .station => 14 | .checkKind => 15

/-- Rig kinds (R202). -/
def RigKind.code : RigKind → Nat
  | .vertical => 1 | .planar => 2 | .spatial3 => 3 | .spatial4 => 4

/-- Check kinds (R202). -/
def CheckKind.code : CheckKind → Nat
  | .missingCue => 1 | .rigKind => 2 | .depth => 3 | .reach => 4 | .length => 5 | .volume => 6 | .zone => 7
  | .footprint => 8 | .drop => 9 | .lineMax => 10 | .lineMin => 11 | .engageMismatch => 12 | .locateMismatch => 13

/-- Places of a report (R202). -/
def Place.code : Place → Nat
  | .expansion => 1 | .start => 2 | .waypoint => 3 | .segment => 4 | .engagement => 5

/-- Alarm and fault classes (R202). -/
def FaultClass.code : FaultClass → Nat
  | .note => 0 | .flyerStop => 1 | .flyerDead => 2 | .allStop => 3

/-- Log modes (R202). -/
def LogMode.code : LogMode → Nat
  | .newest => 0 | .first => 1 | .off => 2

/-- Fault codes, in the order of R156 (R202). -/
def FaultCode.code : FaultCode → Nat
  | .driveFault => 1 | .positionLost => 2 | .feedbackLost => 3 | .followingError => 4 | .pathGeometry => 5
  | .overload => 6 | .slack => 7 | .separation => 8 | .brakeTimeout => 9 | .memberStop => 10 | .stationAlarm => 11
  | .estopChain => 12 | .stationStop => 13 | .cutoff => 14 | .driveWarning => 15 | .linkLost => 16
  | .slotSwapDropped => 17 | .imageDefaults => 18 | .imageItemReplaced => 19 | .saveFailed => 20

/-- Flyer states (R202). -/
def FlyerState.code : FlyerState → Nat
  | .undefined => 1 | .unready => 2 | .unlocated => 3 | .parked => 4 | .releasing => 5 | .cueRun _ => 6
  | .holding => 7 | .held _ => 8 | .jogging => 9 | .stopping _ => 10 | .faulted => 11

/-- Phases (R202). -/
def Phase.code : Phase → Nat
  | .moving => 1 | .dwelling => 2 | .waiting => 3

/-- Stop reasons (R202). -/
def StopReason.code : StopReason → Nat
  | .request => 1 | .fault => 2 | .allStop => 3

/-- Axis states (R202). -/
def AxisState.code : AxisState → Nat
  | .unmapped => 1 | .unreferenced => 2 | .ready => 3 | .engaged => 4 | .faulted => 5

/-- Link states (R202). -/
def LinkState.code : LinkState → Nat
  | .down => 1 | .up => 2 | .lost => 3

/-- Image states (R202). -/
def ImageState.code : ImageState → Nat
  | .idle => 1 | .saving => 2 | .saved => 3 | .saveFailed => 4

/-- Motion kinds (R202). -/
def MotionKind.code : MotionKind → Nat
  | .path => 1 | .jog => 2

/-- Pending starts (R202). -/
def PendingStart.code : PendingStart → Nat
  | .cue => 1 | .jog => 2

/-- Stations (R202). -/
def stationCode : Station → Nat
  | .a => 1 | .b => 2

/-- Formation roles (R202). -/
def Role.code : Role → Nat
  | .leader => 1 | .follower => 2

end Sys2Proof.Machine
end

