-- ==== Sys2Proof/Machine/Arith.lean ====
section
/-! DEFINITION. The arithmetic of chapter 1: rounding modes, roots, conversions of units and of times, and the vector
operations formed from them (R2 to R7). Every quantity is an exact integer (R5). -/

namespace Sys2Proof.Machine

/-- Round half away from zero, for a positive divisor (R6). -/
def roundHalfAway (n d : Int) : Int :=
  if 0 ≤ n then (2 * n + d) / (2 * d) else -((2 * (-n) + d) / (2 * d))

/-- Toward zero (R6). -/
def towardZero (n d : Int) : Int := Int.tdiv n d

/-- Floor, for a positive divisor (R6). -/
def floorDiv (n d : Int) : Int := n / d

/-- Ceiling, for a positive divisor (R6). -/
def ceilDiv (n d : Nat) : Nat := (n + d - 1) / d

/-- A time in ms counted in motion frames (R4). -/
def frames (ms t : Nat) : Nat := ceilDiv ms t

/-- The root's bits from the highest down: `r` is kept with its square not above `s`. -/
def rootBits (s : Nat) : Nat → Nat → Nat
  | 0, r => r
  | k + 1, r => if (r + 2 ^ k) * (r + 2 ^ k) ≤ s then rootBits s k (r + 2 ^ k) else rootBits s k r

/-- Root down: the greatest integer whose square does not exceed s (R7). -/
def rootDown (s : Nat) : Nat := rootBits s (Nat.log2 s / 2 + 1) 0

/-- Root to nearest (R7). -/
def rootNearest (s : Nat) : Nat :=
  let r := rootDown s
  if r * r + r < s then r + 1 else r

/-- Root to nearest of the squared length of a vector. -/
def magnitude (v : Vec3) : Int := (rootNearest v.sq.toNat : Nat)

/-- The rounded point: nm to µm, half away, component by component (R9). -/
def roundPoint (p : Vec3) : Vec3 := p.map fun c => roundHalfAway c 1000

/-- mm to µm (R2). -/
def mmToMicrons (v : Vec3) : Vec3 := v.scale 1000

/-- mm to nm (R2). -/
def mmToNano (v : Vec3) : Vec3 := v.scale 1000000

/-- Every component scaled by n / d, rounded toward zero (R126, R128, R132). -/
def scaleTowardZero (n d : Int) (v : Vec3) : Vec3 := v.map fun c => towardZero (c * n) d

/-- One component of a vector by its place in the order x, y, z. -/
def component (v : Vec3) : Fin 3 → Int
  | 0 => v.x
  | 1 => v.y
  | 2 => v.z

/-- One component of a vector replaced. -/
def withComponent (v : Vec3) (c : Int) : Fin 3 → Vec3
  | 0 => { v with x := c }
  | 1 => { v with y := c }
  | 2 => { v with z := c }

/-- The lesser of two numbers. -/
def lesser (a b : Int) : Int := if a ≤ b then a else b

/-- The greater of two numbers. -/
def greater (a b : Int) : Int := if a ≤ b then b else a

/-- The list paired with its own successors, the last followed by the first. -/
def cyclicPairs {α : Type} (l : List α) : List (α × α) := l.zip (l.tail ++ l.take 1)

end Sys2Proof.Machine
end

