-- ==== Sys2Proof/Machine/Geometry.lean ====
section
/-! DEFINITION. Rig kinds, rig constants, ring points, the geometric condition, line lengths, line limits, drum counts
and measured length (R8 to R20). -/

namespace Sys2Proof.Machine

/-- Rig kind from the member count (R8). -/
def rigKindOf (members : Nat) : RigKind :=
  if members = 1 then .vertical else if members = 2 then .planar else if members = 3 then .spatial3 else .spatial4

/-- SPATIAL3 and SPATIAL4. -/
def RigKind.spatial : RigKind → Bool
  | .vertical => false
  | .planar => false
  | .spatial3 => true
  | .spatial4 => true

/-- A flyer's rig as the tests use it: its kind, its members with their parameter sets in member order, its constants
and the definition's limits. -/
structure Rig where
  kind : RigKind
  lines : List (AxisId × AxisParams)
  consts : RigConsts
  volume : Box
  tol : Nat

/-- The anchors in member order, mm. -/
def Rig.anchors (r : Rig) : List Vec3 := r.lines.map fun l => l.2.anchor

/-! ## Anchor condition and rig constants -/

/-- The lowest anchor z of a list of anchors. -/
def lowestAnchor : List Vec3 → Int
  | [] => 0
  | [a] => a.z
  | a :: b :: rest => lesser a.z (lowestAnchor (b :: rest))

/-- The horizontal edges of a closed outline, in order. -/
def outlineEdges (anchors : List Vec3) : List Vec3 := (cyclicPairs anchors).map fun p => p.2.sub p.1

/-- The anchor condition of R10, without its last part, the minimum drop. -/
def anchorShape : List Vec3 → Bool
  | [_] => true
  | [a, b] => decide (a.x ≠ b.x ∨ a.y ≠ b.y)
  | [a, b, c] => decide (0 < (b.sub a).cross (c.sub a))
  | [a, b, c, d] => (cyclicPairs (outlineEdges [a, b, c, d])).all fun e => decide (0 < e.1.cross e.2)
  | _ => false

/-- The anchor condition of R10 in mm. -/
def anchorCondition (anchors : List Vec3) (drop : Nat) : Bool :=
  anchorShape anchors && decide ((drop : Int) ≤ lowestAnchor anchors)

/-- H12 of a pair of anchors, µm (R11). -/
def h12Of (a b : Vec3) : Int :=
  let d := mmToMicrons (b.sub a)
  (rootNearest (d.x * d.x + d.y * d.y).toNat : Nat)

/-- The rig constants of a rig (R11). -/
def rigConstsOf (anchors : List Vec3) (drop : Nat) : RigConsts :=
  { h12 := match anchors with
      | [a, b] => some (h12Of a b)
      | _ => none
    ceiling := 1000 * (lowestAnchor anchors - drop) }

/-! ## The point -/

/-- The components of a rig kind, in the order x, y, z; that of x is s for a PLANAR rig (R8, R130). -/
def componentsOf : RigKind → List (Fin 3)
  | .vertical => [2]
  | .planar => [0, 2]
  | .spatial3 | .spatial4 => [0, 1, 2]

/-- Coordinates in mm read by rig kind (R8). -/
def readByKind (kind : RigKind) (p : Vec3) : Vec3 :=
  match kind with
  | .vertical => ⟨0, 0, p.z⟩
  | .planar => ⟨p.x, 0, p.z⟩
  | .spatial3 => p
  | .spatial4 => p

/-- The ring point in µm of a rounded point (R9). -/
def ringOfRounded (r : Rig) (p : Vec3) : Vec3 :=
  match r.kind, r.anchors with
  | .vertical, a :: _ => ⟨1000 * a.x, 1000 * a.y, p.z⟩
  | .planar, a :: b :: _ =>
    let h := r.consts.h12.getD 1
    ⟨1000 * a.x + roundHalfAway (p.x * (1000 * (b.x - a.x))) h,
      1000 * a.y + roundHalfAway (p.x * (1000 * (b.y - a.y))) h, p.z⟩
  | _, _ => p

/-- The ring point in µm of a held point (R9). -/
def ringPoint (r : Rig) (p : Vec3) : Vec3 := ringOfRounded r (roundPoint p)

/-- The FOOTPRINT part of the geometric condition on a rounded point (R12, R13). -/
def footprintHolds (r : Rig) (p : Vec3) : Bool :=
  match r.kind with
  | .vertical => true
  | .planar => decide (0 < p.x ∧ p.x < r.consts.h12.getD 0)
  | .spatial3 | .spatial4 =>
    (cyclicPairs (r.anchors.map mmToMicrons)).all fun e => decide (0 < (e.2.sub e.1).cross (p.sub e.1))

/-- The DROP part of the geometric condition on a rounded point (R12). -/
def dropHolds (r : Rig) (p : Vec3) : Bool := decide (p.z ≤ r.consts.ceiling)

/-- The geometric condition of a held point: the part that fails, FOOTPRINT first (R12). -/
def geometryFailure (r : Rig) (p : Vec3) : Option CheckKind :=
  let q := roundPoint p
  if !footprintHolds r q then some .footprint else if !dropHolds r q then some .drop else none

/-! ## Line length -/

/-- Root to nearest of a sum of squares, as a length. -/
def lengthOf (s : Int) : Int := (rootNearest s.toNat : Nat)

/-- The line length of the member at place i of the rig, for a rounded point, µm (R16). -/
def lineLength (r : Rig) (i : Nat) (p : AxisParams) (q : Vec3) : Int :=
  let a := mmToMicrons p.anchor
  match r.kind with
  | .vertical => a.z - q.z
  | .planar =>
    let s := if i = 0 then q.x else r.consts.h12.getD 0 - q.x
    lengthOf (s * s + (a.z - q.z) * (a.z - q.z))
  | .spatial3 | .spatial4 => lengthOf (q.sub a).sq

/-- The members with their line lengths, in member order. -/
def lengthsFrom (r : Rig) (q : Vec3) : Nat → List (AxisId × AxisParams) → List (AxisId × AxisParams × Int)
  | _, [] => []
  | i, l :: rest => (l.1, l.2, lineLength r i l.2 q) :: lengthsFrom r q (i + 1) rest

/-- The line lengths of a held point, member by member (R16). -/
def lineLengths (r : Rig) (p : Vec3) : List (AxisId × AxisParams × Int) := lengthsFrom r (roundPoint p) 0 r.lines

/-- What one test of a point or of a segment found: its check kind and the zone or axis concerned. -/
structure Failure where
  kind : CheckKind
  zone : Option ZoneId
  axis : Option AxisId

/-- The line limits, member by member, LINE_MAX before LINE_MIN (R17). -/
def limitFailure : List (AxisId × AxisParams × Int) → Option Failure
  | [] => none
  | (a, p, len) :: rest =>
    if 1000 * (p.lmax : Int) < len then some ⟨.lineMax, none, some a⟩
    else if len < 1000 * (p.lmin : Int) then some ⟨.lineMin, none, some a⟩
    else limitFailure rest

/-! ## Drum counts -/

/-- Set-point counts of a line length (R18). -/
def countsOf (p : AxisParams) (len : Int) : Int := roundHalfAway ((len - 1000 * (p.l0 : Int)) * p.k) 1000000

/-- Whether a parameter set is count-bounded (R19). -/
def countBounded (p : AxisParams) : Bool :=
  [p.lmin, p.lmax].all fun l =>
    decide (-8388607 ≤ countsOf p (1000 * (l : Int)) ∧ countsOf p (1000 * (l : Int)) ≤ 8388607)

/-- Measured length of fed-back counts, µm (R20). -/
def measuredLength (p : AxisParams) (counts : Int) : Int :=
  1000 * (p.l0 : Int) + roundHalfAway (counts * 1000000) p.k

end Sys2Proof.Machine
end

