-- ==== Sys2Proof/Machine/Space.lean ====
section
/-! DEFINITION. The tests of the airspace on points and segments: flying volumes, zones, the slab test of a segment
against a box, the closest approach of a line, and distances between points (R47 to R53). -/

namespace Sys2Proof.Machine

/-- A point in µm lies in a closed box given in mm, both ends included (R47, R48). -/
def Box.holds (b : Box) (p : Vec3) : Bool :=
  decide (1000 * b.lo.x ≤ p.x ∧ p.x ≤ 1000 * b.hi.x ∧ 1000 * b.lo.y ≤ p.y ∧ p.y ≤ 1000 * b.hi.y ∧
    1000 * b.lo.z ≤ p.z ∧ p.z ≤ 1000 * b.hi.z)

/-- No component of the minimum corner exceeds the maximum corner's (R47, R56). -/
def Box.ordered (b : Box) : Bool := decide (b.lo.x ≤ b.hi.x ∧ b.lo.y ≤ b.hi.y ∧ b.lo.z ≤ b.hi.z)

/-- A zone applies to a flyer: it is enabled and its mask holds the flyer (R48). -/
def Zone.applies (z : Zone) (f : FlyerId) : Bool := z.enabled && z.mask.getLsbD f.val

/-! ## The slab test (R50) -/

/-- A fraction with a positive denominator. -/
structure Fraction where
  num : Int
  den : Int

/-- Fractions compared by cross-multiplication (R5, R50). -/
def Fraction.le (a b : Fraction) : Bool := decide (a.num * b.den ≤ b.num * a.den)

/-- The greater of two fractions. -/
def Fraction.greater (a b : Fraction) : Fraction := if a.le b then b else a

/-- The lesser of two fractions. -/
def Fraction.lesser (a b : Fraction) : Fraction := if a.le b then a else b

/-- One component of the slab test: the running interval against the box's range lo to hi in that component, for a
segment that starts at p and changes by d. Absent once the segment cannot enter (R50). -/
def slab (lo hi p d : Int) (iv : Option (Fraction × Fraction)) : Option (Fraction × Fraction) :=
  match iv with
  | none => none
  | some (l, u) =>
    if d = 0 then (if lo ≤ p ∧ p ≤ hi then some (l, u) else none)
    else if 0 < d then some (l.greater ⟨lo - p, d⟩, u.lesser ⟨hi - p, d⟩)
    else some (l.greater ⟨p - hi, -d⟩, u.lesser ⟨p - lo, -d⟩)

/-- The segment from p to q, in µm, enters the box grown by `guard` µm on every side (R50). -/
def segmentEnters (guard : Int) (b : Box) (p q : Vec3) : Bool :=
  let d := q.sub p
  let iv := slab (1000 * b.lo.x - guard) (1000 * b.hi.x + guard) p.x d.x (some (⟨0, 1⟩, ⟨1, 1⟩))
  let iv := slab (1000 * b.lo.y - guard) (1000 * b.hi.y + guard) p.y d.y iv
  let iv := slab (1000 * b.lo.z - guard) (1000 * b.hi.z + guard) p.z d.z iv
  match iv with
  | none => false
  | some (l, u) => l.le u

/-! ## Tests of a point and of a segment against the zones -/

/-- The first zone in zone order that applies to the flyer and holds the point (R48, R49). -/
def zoneAtPoint (zones : Vector Zone 8) (f : FlyerId) (p : Vec3) : Option ZoneId :=
  allZones.find? fun z => zones[z].applies f && zones[z].box.holds p

/-- The first zone in zone order that applies to the flyer and that the segment enters (R50, R52, R130). -/
def zoneOnSegment (guard : Int) (zones : Vector Zone 8) (f : FlyerId) (p q : Vec3) : Option ZoneId :=
  allZones.find? fun z => zones[z].applies f && segmentEnters guard zones[z].box p q

/-! ## Closest approach (R51) -/

/-- The interior LINE_MIN test of one line: the closest approach of its anchor to the segment from p to q lies
strictly inside the segment and below Lmin and the guard distance. -/
def closestBelow (anchor p q : Vec3) (lmin : Nat) : Bool :=
  let d := q.sub p
  let w := anchor.sub p
  let g := w.dot d
  let n := d.dot d
  if n = 0 ∨ g ≤ 0 ∨ n ≤ g then false
  else
    let m := 1000 * (lmin : Int) + Config.guardMicrons
    decide (w.dot w * n - g * g < m * m * n)

/-- The anchor of the member at place i in the coordinates of the segment test: the ring for SPATIAL rigs, the
vertical plane of a PLANAR rig (R51). -/
def segmentAnchor (r : Rig) (i : Nat) (p : AxisParams) : Vec3 :=
  let a := mmToMicrons p.anchor
  match r.kind with
  | .planar => ⟨if i = 0 then 0 else r.consts.h12.getD 0, 0, a.z⟩
  | _ => a

/-- The first member whose line passes below Lmin inside the segment of rounded points p to q (R51). -/
def lineMinOn (r : Rig) (p q : Vec3) : Nat → List (AxisId × AxisParams) → Option AxisId
  | _, [] => none
  | i, l :: rest =>
    if closestBelow (segmentAnchor r i l.2) p q l.2.lmin then some l.1 else lineMinOn r p q (i + 1) rest

/-! ## The whole tests -/

/-- The tests of one point, in the order VOLUME, ZONE, FOOTPRINT, DROP, line limits (R36, R49, R87): the first
failure. -/
def pointFailure (zones : Vector Zone 8) (f : FlyerId) (r : Rig) (p : Vec3) : Option Failure :=
  let ring := ringPoint r p
  if !r.volume.holds ring then some ⟨.volume, none, none⟩
  else match zoneAtPoint zones f ring with
  | some z => some ⟨.zone, some z, none⟩
  | none => match geometryFailure r p with
    | some k => some ⟨k, none, none⟩
    | none => limitFailure (lineLengths r p)

/-- The tests of one path segment of a flyer, from the rounded point p to the rounded point q: ZONE, then LINE_MIN
(R52). -/
def segmentFailure (zones : Vector Zone 8) (f : FlyerId) (r : Rig) (p q : Vec3) : Option Failure :=
  match zoneOnSegment Config.guardMicrons zones f (ringOfRounded r p) (ringOfRounded r q) with
  | some z => some ⟨.zone, some z, none⟩
  | none => match r.kind with
    | .vertical => none
    | _ => match lineMinOn r p q 0 r.lines with
      | some a => some ⟨.lineMin, none, some a⟩
      | none => none

/-- Two ring points in µm lie closer than a distance in mm (R53, R55). -/
def closer (dsep : Nat) (p q : Vec3) : Bool := decide ((p.sub q).sq < (1000 * (dsep : Int)) * (1000 * (dsep : Int)))

end Sys2Proof.Machine
end

