-- ==== Sys2Proof/Machine/Operands.lean ====
section
/-! DEFINITION. The fields of requests, of cue records and of image items: what each number names, and the ranges the
part tests it against (R1, R21, R31, R43, R56, R62, R63, R196, R200). -/

namespace Sys2Proof.Machine

/-- The axis a number names. -/
def axisNamed (n : Nat) : Option AxisId := if h : n < 12 then some ⟨n, h⟩ else none

/-- The flyer a number names. -/
def flyerNamed (n : Nat) : Option FlyerId := if h : n < 4 then some ⟨n, h⟩ else none

/-- The zone a number names. -/
def zoneNamed (n : Nat) : Option ZoneId := if h : n < 8 then some ⟨n, h⟩ else none

/-- The drive port a number names. -/
def portNamed (n : Nat) : Option PortId := if h : n < 6 then some ⟨n, h⟩ else none

/-- The formation a number names. -/
def formationNamed (n : Nat) : Option FormationId := if h : n < 2 then some ⟨n, h⟩ else none

/-- The rig kind a code names (R202). -/
def rigKindNamed (n : Nat) : Option RigKind :=
  if n = 1 then some .vertical else if n = 2 then some .planar else if n = 3 then some .spatial3
  else if n = 4 then some .spatial4 else none

/-- The log mode a code names (R202). -/
def logModeNamed (n : Nat) : Option LogMode :=
  if n = 0 then some .newest else if n = 1 then some .first else if n = 2 then some .off else none

/-- What a slot byte holds: an axis, or 255 for empty (R149, R200); absent where it names neither. -/
def slotNamed (n : Nat) : Option (Option AxisId) :=
  if n = 255 then some none else (axisNamed n).map some

/-- Every entry named, or none at all. -/
def allNamed {α β : Type} (name : α → Option β) : List α → Option (List β)
  | [] => some []
  | x :: rest =>
    match name x, allNamed name rest with
    | some y, some ys => some (y :: ys)
    | _, _ => none

/-- No element of the list stands in it twice. -/
def allDistinct {α : Type} [DecidableEq α] : List α → Bool
  | [] => true
  | x :: rest => !rest.contains x && allDistinct rest

/-- Lies in a range, both ends included. -/
def within (lo hi v : Int) : Bool := decide (lo ≤ v ∧ v ≤ hi)

/-- Anchors and box corners: x and y within 16 m of the centre, z from the floor to 30 m (R1). -/
def cornerInRange (v : Vec3) : Bool := within (-16000) 16000 v.x && within (-16000) 16000 v.y && within 0 30000 v.z

/-- The ranges of an axis parameter set (R1, R21). -/
def paramsInRange (p : AxisParams) : Bool :=
  cornerInRange p.anchor && within 0 60000 p.l0 && within 100 65535 p.k && within 0 60000 p.lmin &&
    within 0 60000 p.lmax && decide (p.lmin < p.lmax) && within 10 6000 p.vline && within 1 65535 p.feLimit &&
    within 0 50000 p.loadMax && within 0 50000 p.slackMin &&
    (decide (p.slackMin < p.loadMax) || decide (p.slackMin = 0 ∧ p.loadMax = 0))

/-- The coordinates of a MOVE or LOCATE, read by rig kind (R1 and its first note, R62). -/
def coordinatesInRange (kind : RigKind) (v : Vec3) : Bool :=
  match kind with
  | .vertical => decide (v.x = 0 ∧ v.y = 0) && within 0 30000 v.z
  | .planar => within 0 45254 v.x && decide (v.y = 0) && within 0 30000 v.z
  | .spatial3 | .spatial4 => cornerInRange v

/-- The definition that SET_FLYER's fields give, where they pass the first row of R31 after the flyer number, with
unused member bytes 255 (R200). -/
def flyerDefOf (d : FlyerFields) : Option FlyerDef :=
  match allNamed axisNamed (d.members.take d.count) with
  | none => none
  | some ms =>
    if within 1 4 d.count && decide (d.members.length = 4) && (d.members.drop d.count).all (fun b => b == 255) &&
        allDistinct ms && within 10 6000 d.vp && within 100 8000 d.ap && within d.ap 12000 d.astop &&
        within 500 10000 d.drop && within 1 500 d.tol && cornerInRange d.vmin && cornerInRange d.vmax &&
        Box.ordered ⟨d.vmin, d.vmax⟩ then
      some { members := ms, vp := d.vp, ap := d.ap, astop := d.astop, drop := d.drop, tol := d.tol,
             volume := ⟨d.vmin, d.vmax⟩ }
    else none

/-- One follower entry with its flyer named and its offset in range and not zero (R43). -/
def followerNamed (e : Nat × Vec3) : Option (FlyerId × Vec3) :=
  match flyerNamed e.1 with
  | none => none
  | some f =>
    if within (-32000) 32000 e.2.x && within (-32000) 32000 e.2.y && within (-30000) 30000 e.2.z &&
        decide (e.2 ≠ Vec3.zero) then some (f, e.2) else none

/-- The record that SET_FORMATION's fields give, where they pass the first row of R43 after the formation number,
with unused entries 255 and 0 (R200). -/
def formationOf (d : FormationFields) : Option Formation :=
  match flyerNamed d.leader, allNamed followerNamed (d.followers.take d.count) with
  | some l, some fs =>
    if within 1 3 d.count && decide (d.followers.length = 3) &&
        (d.followers.drop d.count).all (fun e => decide (e = (255, Vec3.zero))) &&
        allDistinct (l :: fs.map fun e => e.1) && allDistinct (fs.map fun e => e.2) then
      some { leader := l, followers := fs }
    else none
  | _, _ => none

/-- The record that SET_ZONE's fields give, where they pass the first row of R56 after the zone number. -/
def zoneOf (d : ZoneFields) : Option Zone :=
  if decide (d.enabled ≤ 1) && cornerInRange d.vmin && cornerInRange d.vmax && Box.ordered ⟨d.vmin, d.vmax⟩ &&
      decide (d.mask < 16) then
    some { enabled := decide (d.enabled = 1), box := ⟨d.vmin, d.vmax⟩, mask := BitVec.ofNat 4 d.mask }
  else none

/-- T is 2, 4 or 8 ms (R195, R196). -/
def periodInRange (t : Nat) : Bool := decide (t = 2 ∨ t = 4 ∨ t = 8)

/-- The cut-off is 500 to 3000 ms in steps of 100 ms (R165, R196). -/
def cutoffInRange (c : Nat) : Bool := within 500 3000 c && decide (c % 100 = 0)

/-- Dsep is 0 to 10000 mm (R53). -/
def separationInRange (d : Nat) : Bool := within 0 10000 d

/-! ## Cue records (R62, R63, R204) -/

/-- A MOVE. -/
structure Move where
  waypoint : Vec3
  speed : Nat
  isStop : Bool
  dwell : Nat

/-- A cue record as the interpreter and the expansion read it. -/
inductive Rec where
  | move (m : Move)
  | call (cue : Nat)
  | rep (count : Nat)
  | endRep
  | mark (number : Nat)
  | wait

/-- The record that stored bytes give; absent for a kind byte that is none of the six (R62, R204). -/
def CueRecord.view (r : CueRecord) : Option Rec :=
  if r.kind = 1 then some (.move ⟨r.pos, r.w2, r.flags % 2 == 1, r.w4⟩)
  else if r.kind = 2 then some (.call r.w2)
  else if r.kind = 3 then some (.rep r.w2)
  else if r.kind = 4 then some .endRep
  else if r.kind = 5 then some (.mark r.w2)
  else if r.kind = 6 then some .wait
  else none

/-- The ranges of a record's fields, read by the header's rig kind (R62, R63, R70). -/
def recordInRange (kind : RigKind) (r : CueRecord) : Bool :=
  match CueRecord.view r with
  | some (.move m) =>
    coordinatesInRange kind m.waypoint && (decide (m.speed = 0) || within 10 6000 m.speed) && within 0 60000 m.dwell
  | some (.call n) => within 1 200 n
  | some (.rep c) => within 1 255 c
  | some (.mark n) => within 1 255 n
  | some .endRep => true
  | some .wait => true
  | none => false

end Sys2Proof.Machine
end

