-- ==== Sys2Proof/Machine/Flags.lean ====
section
/-! DEFINITION. The lines, indications and standing conditions that are read off the state: class and located columns
of the fault table (R156), the alarm line (R169), rest outside a run and rest for grants (R34, R185), fresh feedback
and the gone fault condition of an axis (R29, R142). -/

namespace Sys2Proof.Machine

/-- The fixed class of a code (R156); MEMBER_STOP and STATION_ALARM are logged with the class they are given. -/
def FaultCode.cls : FaultCode → FaultClass
  | .driveFault | .positionLost | .feedbackLost | .followingError | .pathGeometry => .flyerDead
  | .overload | .slack | .separation | .brakeTimeout | .memberStop | .stationAlarm => .flyerStop
  | .estopChain | .stationStop | .cutoff => .allStop
  | .driveWarning | .linkLost | .slotSwapDropped | .imageDefaults | .imageItemReplaced | .saveFailed => .note

/-- The code clears located on the flyer it acts on (R27, R156). -/
def FaultCode.clearsLocated : FaultCode → Bool
  | .driveFault | .positionLost | .feedbackLost | .followingError | .cutoff => true
  | .pathGeometry | .overload | .slack | .separation | .brakeTimeout | .memberStop | .stationAlarm | .estopChain
  | .stationStop | .driveWarning | .linkLost | .slotSwapDropped | .imageDefaults | .imageItemReplaced
  | .saveFailed => false

/-- A result that is a refusal (R180). -/
def ResultCode.isRefusal : ResultCode → Bool
  | .done | .accepted => false
  | .badFrame | .unknown | .badValue | .notOwner | .owned | .busy | .noEnable | .allStop | .notReady | .noCue
  | .inUse | .storeFull | .uploadOrder | .uploadMismatch | .preflight | .occupied => true

/-- At rest outside a run: UNREADY, UNLOCATED, PARKED or FAULTED (R34). -/
def FlyerState.restOutsideRun : FlyerState → Bool
  | .unready | .unlocated | .parked | .faulted => true
  | .undefined | .releasing | .cueRun _ | .holding | .held _ | .jogging | .stopping _ => false

/-- A state with a run context (R34). -/
def FlyerState.inRun : FlyerState → Bool
  | .releasing | .cueRun _ | .holding | .held _ | .jogging | .stopping _ => true
  | .undefined | .unready | .unlocated | .parked | .faulted => false

/-- The flyer is in STOPPING, for whatever reason. -/
def FlyerState.isStopping : FlyerState → Bool
  | .stopping _ => true
  | _ => false

/-- The alarm output is asserted while all-stop is active or while any flyer is FAULTED (R169). -/
def alarmLine (s : State) : Bool :=
  s.allStop.isSome || allFlyers.any fun f => decide ((s.flyer f).state = .faulted)

/-- The level of the alarm output pin: open drain, low while asserted (section 12.7). -/
def alarmPin (s : State) : Bool := !s.alarm

/-- The level of the stop chain input pin: high while the chain is closed (section 12.7). -/
def chainPin (s : State) : Bool := !s.chainOpen

/-- The driver enable of a station link, asserted while a response is sent: the head of the queue is being sent until
its last byte has left (R177, section 12.7; log entry 32). -/
def driverEnable (s : State) (st : Station) : Bool :=
  match st with
  | .a => !s.stationA.queue.isEmpty
  | .b => !s.stationB.queue.isEmpty

/-- The part is taking frames: no start-up is running (R192). -/
def running (s : State) : Bool := decide (s.startup = .running)

/-! ## Formations and members -/

/-- The flyers of a formation in formation order, with their offsets in mm: leader, then followers (R43). -/
def Formation.flyers (m : Formation) : List (FlyerId × Vec3) := (m.leader, Vec3.zero) :: m.followers

/-- The flyer is a follower of the formation. -/
def Formation.hasFollower (m : Formation) (f : FlyerId) : Bool := m.followers.any fun e => decide (e.1 = f)

/-- The formation names the flyer. -/
def Formation.names (m : Formation) (f : FlyerId) : Bool := m.flyers.any fun e => decide (e.1 = f)

/-- The formation that names a flyer, where there is one. -/
def formationNaming (s : State) (f : FlyerId) : Option (FormationId × Formation) :=
  allFormations.findSome? fun n =>
    match s.formation n with
    | some m => if m.names f then some (n, m) else none
    | none => none

/-- Formation number and role of a flyer (R30). -/
def formationRole (s : State) (f : FlyerId) : Option (FormationId × Role) :=
  (formationNaming s f).map fun e => (e.1, if e.2.leader = f then .leader else .follower)

/-- The flyer is a formation follower. -/
def isFollower (s : State) (f : FlyerId) : Bool :=
  match formationNaming s f with
  | some e => decide (e.2.leader ≠ f)
  | none => false

/-- The flyer that holds the run context of a flyer: the leader of its formation, or the flyer itself (R45, R96). -/
def leaderOf (s : State) (f : FlyerId) : FlyerId :=
  match formationNaming s f with
  | some e => e.2.leader
  | none => f

/-- The flyers concerned by what is done to a flyer, in formation order, with their offsets in mm: every member of its
formation, or the flyer alone (R45). -/
def concerned (s : State) (f : FlyerId) : List (FlyerId × Vec3) :=
  match formationNaming s f with
  | some e => e.2.flyers
  | none => [(f, Vec3.zero)]

/-- The flyers concerned, without their offsets. -/
def concernedFlyers (s : State) (f : FlyerId) : List FlyerId := (concerned s f).map fun e => e.1

/-- The member axes of a flyer in member order; none for an UNDEFINED flyer. -/
def membersOf (s : State) (f : FlyerId) : List AxisId :=
  match (s.flyer f).defn with
  | some d => d.members
  | none => []

/-- The flyer of which an axis is a member (R31). -/
def flyerOfAxis (s : State) (a : AxisId) : Option FlyerId := allFlyers.find? fun f => (membersOf s f).contains a

/-- The axis stands in the table. -/
def Slots.has (t : Slots) (a : AxisId) : Bool := decide (t.slot0 = some a) || decide (t.slot1 = some a)

/-- The axes of a slot table in slot order. -/
def Slots.axes (t : Slots) : List AxisId := t.slot0.toList ++ t.slot1.toList

/-- The port whose active table holds an axis (R136). -/
def portOfAxis (s : State) (a : AxisId) : Option PortId := allPorts.find? fun p => (s.port p).active.has a

/-- The port and slot that carry an axis (R136). -/
def placeOfAxis (s : State) (a : AxisId) : Option (PortId × Nat) :=
  (portOfAxis s a).map fun p => (p, if (s.port p).active.slot0 = some a then 0 else 1)

/-- The rig of a defined flyer under given parameter sets. An axis without a set is no member (R31). -/
def rigWith (params : AxisId → Option AxisParams) (d : FlyerDef) (c : RigConsts) : Rig :=
  { kind := rigKindOf d.members.length
    lines := d.members.filterMap fun a => (params a).map fun p => (a, p)
    consts := c, volume := d.volume, tol := d.tol }

/-- The parameter set of an axis. -/
def paramsOf (s : State) (a : AxisId) : Option AxisParams := (s.axis a).params

/-- The rig of a defined flyer. -/
def rigOf (s : State) (f : FlyerId) : Option Rig :=
  match (s.flyer f).defn, (s.flyer f).rig with
  | some d, some c => some (rigWith (paramsOf s) d c)
  | _, _ => none

/-- The ring point of a flyer, where it has a point (R9). -/
def ringOf (s : State) (f : FlyerId) : Option Vec3 :=
  match rigOf s f, (s.flyer f).point with
  | some r, some p => some (ringPoint r p)
  | _, _ => none

/-! ## Conditions -/

/-- Every member of the flyer is READY (R35). -/
def membersReady (s : State) (f : FlyerId) : Bool := (membersOf s f).all fun a => decide ((s.axis a).state = .ready)

/-- Some member of the flyer is ENGAGED. -/
def someEngaged (s : State) (f : FlyerId) : Bool := (membersOf s f).any fun a => decide ((s.axis a).state = .engaged)

/-- Every component of a jog's flyer velocity is zero (R124). -/
def jogAtRest (s : State) (f : FlyerId) : Bool :=
  match (s.flyer (leaderOf s f)).run with
  | some r => decide (r.jogV = Vec3.zero)
  | none => true

/-- One flyer is at rest for grants (R185). -/
def restsForGrants (s : State) (f : FlyerId) : Bool :=
  match (s.flyer f).state with
  | .undefined | .unready | .unlocated | .parked | .held _ | .faulted => true
  | .jogging => jogAtRest s f
  | .releasing | .cueRun _ | .holding | .stopping _ => false

/-- A flyer, with every member of its formation, is at rest for grants (R185). -/
def allRestForGrants (s : State) (f : FlyerId) : Bool := (concernedFlyers s f).all (restsForGrants s)

/-- The latest feedback of an axis is fresh: the miss count of its port is 0 (R142). -/
def feedbackFresh (s : State) (a : AxisId) : Bool :=
  match portOfAxis s a with
  | some p => decide ((s.port p).miss = 0)
  | none => false

/-- A load above load max, where a parameter set is present (R145). -/
def overloaded (p : Option AxisParams) (load : Nat) : Bool :=
  match p with
  | some q => decide (q.loadMax < load)
  | none => false

/-- The fault condition of an axis is gone (R29). -/
def faultGone (s : State) (a : AxisId) : Bool :=
  match (s.axis a).feedback with
  | none => false
  | some fb => feedbackFresh s a && fb.posValid && !fb.driveFault && !overloaded (s.axis a).params fb.load

/-- Every member of every flyer concerned reports its brake released (R38, R99). -/
def brakesReleased (s : State) (f : FlyerId) : Bool :=
  (concernedFlyers s f).all fun g => (membersOf s g).all fun a =>
    match (s.axis a).feedback with
    | some fb => fb.brakeReleased
    | none => false

/-- The numbers in the reach set of some active run hold a cue number (R73, R77). -/
def inReach (s : State) (n : Nat) : Bool :=
  allFlyers.any fun f =>
    match (s.flyer f).run with
    | some r => r.reach.contains n
    | none => false

end Sys2Proof.Machine
end

