-- ==== Sys2Proof/Machine/Ops.lean ====
section
/-! DEFINITION. The named operations that the commands share: the fault log, engagement, the readiness rule, the taking
of a fault and of an all-stop, the enable release, and the taking and answering of a station request. -/

namespace Sys2Proof.Machine

/-- One change applied for each element of a list, first to last. -/
def forEach {α : Type} (l : List α) (g : α → State → State) (s : State) : State := l.foldl (fun t x => g x t) s

/-- Changes one axis record. -/
def modAxis (a : AxisId) (g : Axis → Axis) (s : State) : State := s.setAxis a (g (s.axis a))

/-- Changes one flyer record. -/
def modFlyer (f : FlyerId) (g : Flyer → Flyer) (s : State) : State := s.setFlyer f (g (s.flyer f))

/-- Changes one drive port. -/
def modPort (p : PortId) (g : Port → Port) (s : State) : State := s.setPort p (g (s.port p))

/-- Changes one station port. -/
def modStation (st : Station) (g : StationPort → StationPort) (s : State) : State := s.setStation st (g (s.station st))

/-- Changes the run context that a flyer holds, where it holds one. -/
def modRun (f : FlyerId) (g : Run → Run) (s : State) : State := modFlyer f (fun x => { x with run := x.run.map g }) s

/-- Every flyer concerned takes a state (R45). -/
def setStates (fs : List FlyerId) (st : FlyerState) (s : State) : State :=
  forEach fs (fun g => modFlyer g fun x => { x with state := st }) s

/-! ## The fault log (R172) -/

/-- The log after an entry is offered to it, by its mode (R172). -/
def logAfter (mode : LogMode) (log : List LogEntry) (e : LogEntry) : List LogEntry :=
  match mode with
  | .newest => if log.length < Config.logPlaces then log ++ [e] else log.tail ++ [e]
  | .first => if log.length < Config.logPlaces then log ++ [e] else log
  | .off => log

/-- Offers an entry to the log. -/
def logEntry (e : LogEntry) (s : State) : State := { s with log := logAfter s.logMode s.log e }

/-- Offers an entry stamped with the show clock to the log, from a cause with its class and the flyer concerned. -/
def logCause (c : Cause) (cls : FaultClass) (flyer : Option FlyerId) (s : State) : State :=
  logEntry { time := s.clock, code := c.code, cls := cls, flyer := flyer, axis := c.axis, station := c.station,
             port := none, detail := c.detail } s

/-! ## Engagement (R26, R37, R97) -/

/-- An axis leaves ENGAGED for READY; any other axis keeps its state (R26, R97). -/
def disengageAxis (x : Axis) : Axis :=
  if x.state = .engaged then { x with state := .ready, committed := none } else x

/-- Every member still ENGAGED leaves ENGAGED (R26). -/
def disengage (f : FlyerId) (s : State) : State := forEach (membersOf s f) (fun a => modAxis a disengageAxis) s

/-- An axis enters ENGAGED at the counts of a line length (R27, R37, R97, R145). -/
def engageAxis (p : AxisParams) (len : Int) (x : Axis) : Axis :=
  { x with state := .engaged, slack := 0, committed := some len, outgoing := countsOf p len }

/-- Every member enters ENGAGED at the counts of the flyer's point (R37). -/
def engage (f : FlyerId) (s : State) : State :=
  match rigOf s f, (s.flyer f).point with
  | some r, some p => forEach (lineLengths r p) (fun l => modAxis l.1 (engageAxis l.2.1 l.2.2)) s
  | _, _ => s

/-- The run of a flyer and of its formation ends: each goes to a state without a run context, its members leave
ENGAGED and the run context is discarded (R26, R34, R107). -/
def leaveRun (f : FlyerId) (st : FlyerState) (s : State) : State :=
  forEach (concernedFlyers s f) (fun g t => disengage g (modFlyer g (fun x => { x with state := st, run := none }) t)) s

/-! ## Readiness (R35) -/

/-- A flyer's located flag becomes false, and with it its point, but for a flyer in a run or one that holds a frozen
point (R30; DEDUCED: log entry 20). -/
def dropLocated (x : Flyer) : Flyer :=
  { x with located := false, point := if x.state.inRun || x.frozen then x.point else none }

/-- The readiness rule on one flyer (R35). -/
def readiness (f : FlyerId) (s : State) : State :=
  match (s.flyer f).state with
  | .unready | .unlocated | .parked =>
    let ready := membersReady s f
    modFlyer f (fun x =>
      { x with state := if ready = false then .unready else if x.located then .parked else .unlocated }) s
  | _ => s

/-! ## Faults (R27, R28, R157 to R161) -/

/-- The fault cause of a flyer after a further fault: the first stays (R157). -/
def firstCause (x : Flyer) (c : Cause) : Option Cause :=
  match x.cause with
  | some d => some d
  | none => some c

/-- Whether a fault acts on a flyer in a state, or is logged only (R28, R158, R160). -/
def faultActs (cls : FaultClass) : FlyerState → Bool
  | .undefined | .faulted => false
  | .stopping .fault | .stopping .allStop => decide (cls = .flyerDead)
  | .unready | .unlocated | .parked | .releasing | .cueRun _ | .holding | .held _ | .jogging
  | .stopping .request => true

/-- A flyer goes to FAULTED, its run context discarded and every member out of ENGAGED. A dead-stop fault in RELEASING that
clears located is taken so: the point is not frozen and becomes absent (R28, R30, R159; DESIGN CHOICE: log entry 39). -/
def faultAtRest (f : FlyerId) (c : Cause) (s : State) : State :=
  disengage f (modFlyer f (fun x => { x with
    state := .faulted, run := none, cause := firstCause x c, point := if x.located then x.point else none }) s)

/-- A dead stop: the point frozen where it stands, the flyer FAULTED, its healthy members still ENGAGED (R41, R159). -/
def deadStop (f : FlyerId) (c : Cause) (s : State) : State :=
  modFlyer f (fun x => { x with state := .faulted, run := none, cause := firstCause x c, frozen := true }) s

/-- STOPPING with reason FAULT (R28, R158). -/
def controlledStop (f : FlyerId) (c : Cause) (s : State) : State :=
  modFlyer f (fun x => { x with state := .stopping .fault, cause := firstCause x c }) s

/-- What a fault does to one flyer, by its state (R28 for a fault that comes through an axis, R158 and R159 for one
found on the flyer; DEDUCED: log entries 15 and 23). -/
def hitFlyer (viaAxis : Bool) (cls : FaultClass) (clears : Bool) (c : Cause) (f : FlyerId) (s : State) : State :=
  let s := if clears then modFlyer f dropLocated s else s
  match (s.flyer f).state with
  | .undefined | .faulted => s
  | .unready | .unlocated | .parked =>
    if viaAxis then readiness f (modFlyer f (fun x => { x with state := .unready }) s) else faultAtRest f c s
  | .releasing => faultAtRest f c s
  | .cueRun _ | .holding | .jogging | .stopping .request =>
    if cls = .flyerDead then deadStop f c s else controlledStop f c s
  | .stopping .fault | .stopping .allStop => if cls = .flyerDead then deadStop f c s else s
  | .held _ => if cls = .flyerDead then deadStop f c s else faultAtRest f c s

/-- A fault on a flyer: its log entry, its action on the flyer, and the same stop for every other member of its
formation, each with its MEMBER_STOP (R45, R157 to R161). -/
def takeFault (viaAxis : Bool) (cls : FaultClass) (c : Cause) (f : FlyerId) (s : State) : State :=
  let acts := faultActs cls (s.flyer f).state
  let s1 := hitFlyer viaAxis cls c.code.clearsLocated c f (logCause c cls (some f) s)
  if acts = false then s1
  else
    let m : Cause := { code := .memberStop, axis := none, station := none, detail := .member f c.code }
    forEach ((concernedFlyers s f).filter fun g => decide (g ≠ f))
      (fun g t => hitFlyer viaAxis cls c.code.clearsLocated m g (logCause m cls (some g) t)) s1

/-- An axis fault with a fault code and a detail (R27, R28): logged only on an axis that is already FAULTED. -/
def axisFault (code : FaultCode) (detail : Detail) (a : AxisId) (s : State) : State :=
  let c : Cause := { code := code, axis := some a, station := none, detail := detail }
  if (s.axis a).state = .faulted then logCause c code.cls (flyerOfAxis s a) s
  else
    let s1 := modAxis a (fun x => { x with state := .faulted, cause := some code, slack := 0, committed := none }) s
    match flyerOfAxis s a with
    | none => logCause c code.cls none s1
    | some f => takeFault true code.cls c f s1

/-! ## All-stop (R162, R163, R167) -/

/-- What the activation of all-stop does to one flyer (R163; DEDUCED: log entry 33). -/
def allStopFlyer (c : Cause) (f : FlyerId) (s : State) : State :=
  match (s.flyer f).state with
  | .releasing | .held _ => faultAtRest f c s
  | .cueRun _ | .holding | .jogging | .stopping _ =>
    modFlyer f (fun x => { x with state := .stopping .allStop, cause := firstCause x c }) s
  | .undefined | .unready | .unlocated | .parked | .faulted => s

/-- An all-stop source: logged, and while all-stop is inactive it raises it (R162, R163, R165, R167). -/
def raiseAllStop (c : Cause) (s : State) : State :=
  let s1 := logCause c .allStop none s
  match s1.allStop with
  | some _ => s1
  | none =>
    forEach allFlyers (allStopFlyer c) { s1 with allStop := some c, cutCount := frames s1.cutoff s1.t }

/-! ## Enable release (R178) -/

/-- What an enable release does to one flyer or formation its station owns, by the leader's state (R38, R39, R127,
R178). -/
def releaseEnableOn (f : FlyerId) (s : State) : State :=
  match (s.flyer f).state with
  | .releasing => leaveRun f .parked s
  | .cueRun .moving => setStates (concernedFlyers s f) .holding s
  | .cueRun .dwelling => setStates (concernedFlyers s f) (.held .dwelling) s
  | .cueRun .waiting => setStates (concernedFlyers s f) (.held .waiting) s
  | .jogging => modRun f (fun r => { r with jogReq := Vec3.zero, jogValid := 0 }) s
  | .undefined | .unready | .unlocated | .parked | .holding | .held _ | .stopping _ | .faulted => s

/-- An enable release acts on every flyer its station owns (R178). -/
def enableRelease (st : Station) (s : State) : State :=
  forEach allFlyers (fun f t =>
    if (t.grant f).owner = some st ∧ isFollower t f = false then releaseEnableOn f t else t) s

/-! ## The end of an event (R169, R185) -/

/-- A marked flyer at rest for grants loses its owner and its mark (R185). -/
def settleGrant (f : FlyerId) (s : State) : State :=
  if (s.grant f).mark && allRestForGrants s f then s.setGrant f Grant.initial else s

/-- What every event ends with: the marked grants that are at rest are released and the alarm line is evaluated again
(R169, R185; DEDUCED: log entry 29). -/
def finish (s : State) : State :=
  let s1 := forEach allFlyers settleGrant s
  { s1 with alarm := alarmLine s1 }

/-! ## Requests (R176, R177, R180) -/

/-- What the owning block answers: a result code and the result fields. -/
structure Reply where
  result : ResultCode
  body : ReplyBody

/-- DONE with no fields. -/
def done (s : State) : State × Reply := (s, ⟨.done, .empty⟩)

/-- A refusal that leaves the part as it was, with the items its rule names (DESIGN CHOICE: log entry 17). -/
def refuse (r : ResultCode) (items : List Item) (s : State) : State × Reply := (s, ⟨r, .detail items⟩)

/-- The first two steps of taking a valid frame: its enable, and the link state and silence timer (R176). -/
def arrive (st : Station) (enable : Bool) (s : State) : State :=
  let s1 := modStation st (fun p => { p with enable := enable }) s
  let s2 := if enable then s1 else enableRelease st s1
  modStation st (fun p => { p with link := .up, silence := some Config.silenceMs }) s2

/-- A response is appended to the port's queue, and counted where it is a refusal (R177, R190). -/
def answer (q : Req) (code : Nat) (r : Reply) (s : State) : State :=
  modStation q.st (fun p => { p with
    queue := p.queue ++ [⟨q.tag, code, r.result, r.body⟩],
    refused := if r.result.isRefusal then p.refused + 1 else p.refused }) s

/-- The third and fourth steps of taking a valid frame: with four responses queued the request is not taken, and
otherwise it is decided by `body`, or by `misfit` where its length is not the one its fields need (R176, R177). -/
def serve (q : Req) (code : Nat) (misfit body : State → State × Reply) (s : State) : State :=
  if Config.queuePlaces ≤ (s.station q.st).queue.length then
    modStation q.st (fun p => { p with discarded := p.discarded + 1 }) s
  else
    let s1 := modStation q.st (fun p => { p with good := p.good + 1 }) s
    let out := if q.fits then body s1 else misfit s1
    answer q code out.2 out.1

/-- A command while the part is taking frames; during start-up it is not taken (R192; DEDUCED: log entry 8). -/
def whileRunning (s : State) (g : State → State) : Host.Outcome State Fault Refusal :=
  if running s then .next (finish (g s)) else .next s

/-- A station request, taken as one event at its port (R176, R177). -/
def takeRequest (q : Req) (code : Nat) (body : State → State × Reply) (s : State) : Host.Outcome State Fault Refusal :=
  whileRunning s fun t => serve q code (refuse .badFrame []) body (arrive q.st q.enable t)

/-! ## Who may send what (R181, R182) -/

/-- The edit grant: the owner, or either station where there is none (R181). -/
def editGrant (q : Req) (f : FlyerId) (s : State) : Bool :=
  decide ((s.grant f).owner = none) || decide ((s.grant f).owner = some q.st)

/-- The motion grant: the owner only (R181). -/
def motionGrant (q : Req) (f : FlyerId) (s : State) : Bool := decide ((s.grant f).owner = some q.st)

/-- The image is being saved (R197). -/
def saving (s : State) : Bool := decide (s.image = .saving)

/-- The first flyer of a list whose state a test refuses, with the result (R45). -/
def firstRefused (test : FlyerState → Option ResultCode) (s : State) : List FlyerId → Option (FlyerId × ResultCode)
  | [] => none
  | f :: rest =>
    match test (s.flyer f).state with
    | some r => some (f, r)
    | none => firstRefused test s rest

/-- A motion request on a flyer: the checks that stand before the state checks of its own rule (R42, R164, R181), and
then what it does. -/
def motionRequest (q : Req) (needEnable : Bool) (flyer : Nat) (k : FlyerId → State → State × Reply) (s : State) :
    State × Reply :=
  match flyerNamed flyer with
  | none => refuse .badValue [] s
  | some f =>
    if motionGrant q f s = false then refuse .notOwner [] s
    else if needEnable && !q.enable then refuse .noEnable [] s
    else if s.allStop.isSome then refuse .allStop [] s
    else if isFollower s f then refuse .busy [] s
    else if (s.flyer f).state = .undefined then refuse .notReady [] s
    else k f s

end Sys2Proof.Machine
end

