-- ==== Sys2Proof/Machine/Rig.lean ====
section
/-! DEFINITION. The rig table's requests: SET_AXIS, SET_FLYER, CLEAR_FLYER, SET_FORMATION, CLEAR_FORMATION and LOCATE
(R15, R21, R22, R31 to R33, R36, R43, R44). -/

namespace Sys2Proof.Machine

/-- The anchors of a definition's members under given parameter sets, mm. -/
def anchorsUnder (params : AxisId → Option AxisParams) (d : FlyerDef) : List Vec3 :=
  d.members.filterMap fun a => (params a).map fun p => p.anchor

/-- The rig of a definition under given parameter sets, its constants formed anew (R11). -/
def rigUnder (params : AxisId → Option AxisParams) (d : FlyerDef) : Rig :=
  rigWith params d (rigConstsOf (anchorsUnder params d) d.drop)

/-- The anchor condition of a definition under given parameter sets (R10). -/
def anchorsUsable (params : AxisId → Option AxisParams) (d : FlyerDef) : Bool :=
  anchorCondition (anchorsUnder params d) d.drop

/-- The parameter sets with one axis's set replaced. -/
def paramsWith (s : State) (a : AxisId) (p : AxisParams) : AxisId → Option AxisParams := fun b =>
  if b = a then some p else paramsOf s b

/-- A located flyer's point fails under a changed rig: its volume, an enabled zone, the geometric condition or the line
limits (R15, R22, R31, R59). -/
def displaced (s : State) (f : FlyerId) (r : Rig) : Bool :=
  match (s.flyer f).located, (s.flyer f).point with
  | true, some p => (pointFailure s.zones f r p).isSome
  | _, _ => false

/-- A flyer's rig constants are formed anew (R11). -/
def recomputeRig (f : FlyerId) (s : State) : State :=
  match (s.flyer f).defn with
  | some d => modFlyer f (fun x => { x with rig := some (rigConstsOf (anchorsUnder (paramsOf s) d) d.drop) }) s
  | none => s

/-! ## SET_AXIS (R22) -/

/-- SET_AXIS on an axis that is a member of a flyer, after the range row (R22). -/
def setMemberAxis (q : Req) (a : AxisId) (p : AxisParams) (f : FlyerId) (s : State) : State × Reply :=
  let ps := paramsWith s a p
  if editGrant q f s = false then refuse .notOwner [] s
  else if saving s then refuse .busy [] s
  else if (s.axis a).state = .engaged then refuse .busy [] s
  else if (s.flyer f).state.restOutsideRun = false then refuse .busy [] s
  else match (s.flyer f).defn with
  | none => refuse .busy [] s
  | some d =>
    if anchorsUsable ps d = false then refuse .badValue [] s
    else if displaced s f (rigUnder ps d) then refuse .occupied [] s
    else done (recomputeRig f (modAxis a (fun x => { x with params := some p, slack := 0 }) s))

/-- SET_AXIS on an axis that is a member of no flyer, after the range row (R22). -/
def setFreeAxis (a : AxisId) (p : AxisParams) (s : State) : State × Reply :=
  if saving s then refuse .busy [] s
  else if (s.axis a).state = .engaged then refuse .busy [] s
  else done (modAxis a (fun x => { x with params := some p, slack := 0 }) s)

/-- SET_AXIS at the rig table (R22). -/
def setAxisBody (q : Req) (axis : Nat) (p : AxisParams) (s : State) : State × Reply :=
  match axisNamed axis, paramsInRange p with
  | some a, true =>
    match flyerOfAxis s a with
    | some f => setMemberAxis q a p f s
    | none => setFreeAxis a p s
  | _, _ => refuse .badValue [] s

/-! ## SET_FLYER and CLEAR_FLYER (R31, R32, R33) -/

/-- The rows of R31 after the first that answer BAD_VALUE: parameter sets, members of other flyers, anchors, and the
member count of a formation member. -/
def definitionUsable (s : State) (f : FlyerId) (d : FlyerDef) : Bool :=
  d.members.all (fun a => (paramsOf s a).isSome) &&
    d.members.all (fun a => allFlyers.all fun g => decide (g = f) || !(membersOf s g).contains a) &&
    anchorsUsable (paramsOf s) d &&
    !((formationNaming s f).isSome && decide (d.members.length < 3))

/-- The states in which SET_FLYER is taken (R31). -/
def redefinable : FlyerState → Bool
  | .undefined => true
  | st => st.restOutsideRun

/-- The rig kind of a defined flyer (R8). -/
def kindOf (s : State) (f : FlyerId) : Option RigKind := (s.flyer f).defn.map fun d => rigKindOf d.members.length

/-- A new definition replaces the old one as a whole (R32). -/
def installDefinition (f : FlyerId) (d : FlyerDef) (s : State) : State :=
  let rig := some (rigConstsOf (anchorsUnder (paramsOf s) d) d.drop)
  let x := s.flyer f
  let y : Flyer :=
    match x.defn with
    | none => { Flyer.initial with defn := some d, rig := rig, state := .unready }
    | some old =>
      if rigKindOf old.members.length = rigKindOf d.members.length then { x with defn := some d, rig := rig }
      else { x with defn := some d, rig := rig, located := false, point := none, frozen := false,
                    state := if x.state = .parked then .unlocated else x.state }
  readiness f (s.setFlyer f y)

/-- The located flyer keeps its rig kind and its point fails under the new definition (R31, R59). -/
def displacedBy (s : State) (f : FlyerId) (d : FlyerDef) : Bool :=
  decide (kindOf s f = some (rigKindOf d.members.length)) && displaced s f (rigUnder (paramsOf s) d)

/-- SET_FLYER at the rig table (R31). -/
def setFlyerBody (q : Req) (flyer : Nat) (fields : FlyerFields) (s : State) : State × Reply :=
  match flyerNamed flyer, flyerDefOf fields with
  | some f, some d =>
    if editGrant q f s = false then refuse .notOwner [] s
    else if saving s then refuse .busy [] s
    else if definitionUsable s f d = false then refuse .badValue [] s
    else if redefinable (s.flyer f).state = false ∨ someEngaged s f then refuse .busy [] s
    else if displacedBy s f d then refuse .occupied [⟨.flyer, f.val⟩] s
    else done (installDefinition f d s)
  | _, _ => refuse .badValue [] s

/-- CLEAR_FLYER at the rig table (R33). -/
def clearFlyerBody (q : Req) (flyer : Nat) (s : State) : State × Reply :=
  match flyerNamed flyer with
  | none => refuse .badValue [] s
  | some f =>
    if editGrant q f s = false then refuse .notOwner [] s
    else if saving s then refuse .busy [] s
    else if (s.flyer f).state = .undefined then done s
    else if (s.flyer f).state.restOutsideRun = false ∨ someEngaged s f ∨ (formationNaming s f).isSome then
      refuse .busy [] s
    else done ((s.setFlyer f Flyer.initial).setGrant f Grant.initial)

/-! ## Formations (R43, R44) -/

/-- A flyer is defined and SPATIAL3 or SPATIAL4 (R43). -/
def isSpatial (s : State) (f : FlyerId) : Bool :=
  match kindOf s f with
  | some k => k.spatial
  | none => false

/-- A flyer is a member of a formation other than the one named (R43). -/
def inOtherFormation (s : State) (n : FormationId) (f : FlyerId) : Bool :=
  match formationNaming s f with
  | some e => decide (e.1 ≠ n)
  | none => false

/-- The second and third rows of R43: every named flyer is SPATIAL and in no other formation. -/
def formationUsable (s : State) (n : FormationId) (m : Formation) : Bool :=
  m.flyers.all fun e => isSpatial s e.1 && !inOtherFormation s n e.1

/-- A flyer is at rest outside a run with no member ENGAGED (R43). -/
def editable (s : State) (f : FlyerId) : Bool := (s.flyer f).state.restOutsideRun && !someEngaged s f

/-- The state and ownership conditions of R43 and R44 on the flyers an edit involves. -/
def formationRefusal (q : Req) (s : State) (fs : List FlyerId) : Option ResultCode :=
  if fs.all (editable s) = false then some .busy
  else match fs with
  | [] => none
  | f :: rest =>
    if rest.all (fun g => decide ((s.grant g).owner = (s.grant f).owner)) = false then some .owned
    else if editGrant q f s = false then some .notOwner
    else none

/-- A follower of a new record keeps its located flag only at exactly its offset from a located leader (R43). -/
def alignFollower (leader : FlyerId) (e : FlyerId × Vec3) (s : State) : State :=
  let l := s.flyer leader
  let aligned := l.located && decide ((s.flyer e.1).point = l.point.map fun p => p.add (mmToNano e.2))
  if aligned then s
  else modFlyer e.1 (fun x =>
    let y := dropLocated x
    { y with state := if y.state = .parked then .unlocated else y.state }) s

/-- SET_FORMATION at the rig table (R43). -/
def setFormationBody (q : Req) (formation : Nat) (fields : FormationFields) (s : State) : State × Reply :=
  match formationNamed formation, formationOf fields with
  | some n, some m =>
    if formationUsable s n m = false then refuse .badValue [] s
    else if saving s then refuse .busy [] s
    else
      let old := match s.formation n with
        | some o => o.flyers
        | none => []
      match formationRefusal q s ((m.flyers ++ old).map fun e => e.1) with
      | some r => refuse r [] s
      | none => done (forEach m.followers (alignFollower m.leader) (s.setFormation n (some m)))
  | _, _ => refuse .badValue [] s

/-- CLEAR_FORMATION at the rig table (R44). R44 gives the image-saving check no place; that it stands first, before the
DONE on an empty record and before the state and ownership conditions, is the model's choice (R43, R181, R197; DESIGN
CHOICE: log entry 40). -/
def clearFormationBody (q : Req) (formation : Nat) (s : State) : State × Reply :=
  match formationNamed formation with
  | none => refuse .badValue [] s
  | some n =>
    if saving s then refuse .busy [] s
    else match s.formation n with
    | none => done s
    | some m =>
      match formationRefusal q s (m.flyers.map fun e => e.1) with
      | some r => refuse r [] s
      | none => done (s.setFormation n none)

/-! ## LOCATE (R36) -/

/-- The first member whose measured length is absent or differs from the length of the point by more than the locate
tolerance (R20, R36). -/
def locateMismatch (s : State) (tol : Nat) : List (AxisId × AxisParams × Int) → Option AxisId
  | [] => none
  | (a, p, len) :: rest =>
    match (s.axis a).feedback with
    | none => some a
    | some fb =>
      if within (-(1000 * (tol : Int))) (1000 * (tol : Int)) (measuredLength p fb.counts - len) then
        locateMismatch s tol rest
      else some a

/-- The items of a LOCATE refusal: the check kind, the flyer, and the zone or axis concerned (R36). -/
def locateItems (f : FlyerId) (e : Failure) : List Item :=
  let named := match e.zone, e.axis with
    | some z, _ => [⟨.zone, z.val⟩]
    | none, some a => [⟨.axis, a.val⟩]
    | none, none => []
  [⟨.checkKind, e.kind.code⟩, ⟨.flyer, f.val⟩] ++ named

/-- The tests of LOCATE on one flyer at a point in nm: the first failure, with the result it is refused with (R36). -/
def locateFailure (s : State) (f : FlyerId) (p : Vec3) : Option (ResultCode × List Item) :=
  match rigOf s f with
  | none => some (.notReady, [])
  | some r =>
    match pointFailure s.zones f r p with
    | some e => some (.badValue, locateItems f e)
    | none =>
      match locateMismatch s r.tol (lineLengths r p) with
      | some a => some (.notReady, locateItems f ⟨.locateMismatch, none, some a⟩)
      | none => none

/-- The tests of LOCATE on every flyer concerned, each at the point plus its offset (R36). -/
def locateRefusal (s : State) (p : Vec3) : List (FlyerId × Vec3) → Option (ResultCode × List Item)
  | [] => none
  | e :: rest =>
    match locateFailure s e.1 (mmToNano (p.add e.2)) with
    | some r => some r
    | none => locateRefusal s p rest

/-- The states in which LOCATE is taken (R36, R42). -/
def locatable : FlyerState → Option ResultCode
  | .unlocated | .parked => none
  | .undefined | .unready => some .notReady
  | .releasing | .cueRun _ | .holding | .held _ | .jogging | .stopping _ | .faulted => some .busy

/-- The coordinates lie in the ranges of the named flyer's rig kind; an UNDEFINED flyer has none (R1, R36). -/
def locateInRange (s : State) (f : FlyerId) (p : Vec3) : Bool :=
  match kindOf s f with
  | some k => coordinatesInRange k p
  | none => true

/-- Each flyer concerned takes its point, located and PARKED (R36). -/
def takePoints (p : Vec3) (fs : List (FlyerId × Vec3)) (s : State) : State :=
  forEach fs (fun e => modFlyer e.1 fun x =>
    { x with point := some (mmToNano (p.add e.2)), located := true, state := .parked }) s

/-- LOCATE at the rig table (R36; the order of its first checks is DEDUCED: log entry 19). -/
def locateBody (q : Req) (flyer : Nat) (p : Vec3) (s : State) : State × Reply :=
  match flyerNamed flyer with
  | none => refuse .badValue [] s
  | some f =>
    if locateInRange s f p = false then refuse .badValue [] s
    else motionRequest q false flyer (fun g t =>
      match firstRefused locatable t (concernedFlyers t g) with
      | some e => refuse e.2 [] t
      | none =>
        match locateRefusal t p (concerned t g) with
        | some r => refuse r.1 r.2 t
        | none => done (takePoints p (concerned t g) t)) s

/-! ## The meanings -/

/-- SET_AXIS (R22). -/
def execSetAxis (q : Req) (axis : Nat) (params : AxisParams) (s : State) : Host.Outcome State Fault Refusal :=
  takeRequest q 0x20 (setAxisBody q axis params) s

/-- SET_FLYER (R31, R32). -/
def execSetFlyer (q : Req) (flyer : Nat) (fields : FlyerFields) (s : State) : Host.Outcome State Fault Refusal :=
  takeRequest q 0x21 (setFlyerBody q flyer fields) s

/-- CLEAR_FLYER (R33). -/
def execClearFlyer (q : Req) (flyer : Nat) (s : State) : Host.Outcome State Fault Refusal :=
  takeRequest q 0x22 (clearFlyerBody q flyer) s

/-- SET_FORMATION (R43). -/
def execSetFormation (q : Req) (formation : Nat) (fields : FormationFields) (s : State) :
    Host.Outcome State Fault Refusal :=
  takeRequest q 0x23 (setFormationBody q formation fields) s

/-- CLEAR_FORMATION (R44). -/
def execClearFormation (q : Req) (formation : Nat) (s : State) : Host.Outcome State Fault Refusal :=
  takeRequest q 0x24 (clearFormationBody q formation) s

/-- LOCATE (R36). -/
def execLocate (q : Req) (flyer : Nat) (point : Vec3) (s : State) : Host.Outcome State Fault Refusal :=
  takeRequest q 0x25 (locateBody q flyer point) s

end Sys2Proof.Machine
end

