-- ==== Sys2Proof/Machine/Reads.lean ====
section
/-! DEFINITION. The read requests (R79, R186 to R190): each forms one snapshot of the state it finds and changes
nothing else. -/

namespace Sys2Proof.Machine

/-- DONE with result fields. -/
def report (b : ReplyBody) (s : State) : State × Reply := (s, ⟨.done, b⟩)

/-- Free record places of the pool: 4096 less those of complete cues and open uploads (R65). -/
def poolFree (s : State) : Nat :=
  let held (u : Option Upload) : Nat :=
    match u with
    | some c => c.recs.length
    | none => 0
  Config.poolPlaces - ((s.dir.map fun c => c.recs.length).sum + held s.stationA.upload + held s.stationB.upload)

/-- The directory entry of a cue number (R64). -/
def cueOf (dir : List Cue) (n : Nat) : Option Cue := dir.find? fun c => c.num == n

/-- What READ_STATUS returns for a flyer (R186). -/
def flyerStatus (s : State) (f : FlyerId) : FlyerStatus :=
  { state := (s.flyer f).state, grant := s.grant f, located := (s.flyer f).located, formation := formationRole s f }

/-- What READ_STATUS returns for a port (R186). -/
def portStatus (s : State) (p : PortId) : PortStatus :=
  { active := (s.port p).active, shadow := (s.port p).shadow, swap := (s.port p).swap, miss := (s.port p).miss }

/-- What READ_STATUS returns (R186). -/
def statusView (s : State) : StatusView :=
  { links := [(s.stationA.link, s.stationA.enable), (s.stationB.link, s.stationB.enable)]
    flyers := allFlyers.map (flyerStatus s)
    allStop := s.allStop, cutCount := s.cutCount, cutoff := s.cutoff, chainOpen := s.chainOpen, alarm := s.alarm
    ports := allPorts.map (portStatus s)
    t := s.t, cfgT := s.cfgT, dsep := s.dsep, logMode := s.logMode, logCount := s.log.length, image := s.image
    clock := s.clock }

/-- The jog speed of a jog-kind run (R124). -/
def jogSpeedOf (r : Run) : Option Nat :=
  match r.kind with
  | .jog => some (rootNearest r.jogV.sq.toNat)
  | .path => none

/-- What READ_FLYER returns for a defined flyer (R187): its own record, and the run context of its leader
(DEDUCED: log entry 27). -/
def flyerBody (s : State) (f : FlyerId) (d : FlyerDef) : FlyerBody :=
  let x := s.flyer f
  let run := (s.flyer (leaderOf s f)).run
  { defn := d, kind := rigKindOf d.members.length, rig := x.rig, located := x.located, point := x.point
    ring := ringOf s f, mark := x.mark, markCount := x.markCount, governed := x.governed, atLimit := x.atLimit
    cause := x.cause, formation := formationRole s f, run := run, jogSpeed := run.bind jogSpeedOf }

/-- What READ_FLYER returns (R187). -/
def flyerView (s : State) (f : FlyerId) : FlyerView :=
  { state := (s.flyer f).state, grant := s.grant f, body := (s.flyer f).defn.map (flyerBody s f) }

/-- What READ_AXIS returns (R188). -/
def axisView (s : State) (a : AxisId) : AxisView :=
  let x := s.axis a
  let mapped := decide (x.state ≠ .unmapped)
  { params := x.params, state := x.state
    cause := if x.state = .faulted then x.cause else none
    flyer := flyerOfAxis s a, place := placeOfAxis s a, outgoing := x.outgoing
    history := if mapped then some (x.current, x.previous) else none
    committed := if x.state = .engaged then x.committed else none
    feedback := if mapped then x.feedback else none
    measured := match x.params, x.feedback with
      | some p, some fb => some (measuredLength p fb.counts)
      | _, _ => none
    slack := x.slack }

/-- What READ_CUE returns of an upload context (R79). -/
def uploadView (u : Upload) : UploadView :=
  { num := u.num, total := u.total, kind := u.kind, soFar := u.recs.length, next := u.next }

/-- What READ_CUE returns for cue number 0 (R79). -/
def cueSummary (s : State) : CueSummary :=
  { entries := s.dir.length, free := poolFree s, present := s.dir.map fun c => c.num
    uploads := [s.stationA.upload.map uploadView, s.stationB.upload.map uploadView] }

/-- A record as READ_CUE sends it: the flag bits of a MOVE that the layout does not define are 0, and every other byte
is as it was stored (R79, R200, R204; log entry 22). -/
def sentRecord (r : CueRecord) : CueRecord := if r.kind = 1 then { r with flags := r.flags % 2 } else r

/-- READ_CUE at the cue store (R79). -/
def readCueBody (cue start : Nat) (s : State) : State × Reply :=
  if 200 < cue ∨ 249 < start then refuse .badValue [] s
  else if cue = 0 then (if start = 0 then report (.summary (cueSummary s)) s else refuse .badValue [] s)
  else match cueOf s.dir cue with
  | none => refuse .noCue [] s
  | some c =>
    if c.recs.length ≤ start then refuse .badValue [] s
    else report (.cue c.kind c.recs.length (((c.recs.drop start).take 8).map sentRecord)) s

/-- READ_LOG at the stop and fault unit (R189). -/
def readLogBody (start : Nat) (s : State) : State × Reply :=
  if 23 < start ∨ (s.log.length ≤ start ∧ ¬(start = 0 ∧ s.log = [])) then refuse .badValue [] s
  else report (.log s.logMode s.log.length ((s.log.drop start).take 6)) s

/-- What READ_COUNTERS returns (R190). -/
def countersView (s : State) : CountersView :=
  { stations := [(s.stationA.good, s.stationA.discarded, s.stationA.refused),
      (s.stationB.good, s.stationB.discarded, s.stationB.refused)]
    ports := allPorts.map fun p => ((s.port p).sent, (s.port p).good, (s.port p).discarded, (s.port p).missed) }

/-- READ_STATUS (R186). -/
def execReadStatus (q : Req) (s : State) : Host.Outcome State Fault Refusal :=
  takeRequest q 0x01 (fun t => report (.status (statusView t)) t) s

/-- READ_FLYER (R187). -/
def execReadFlyer (q : Req) (flyer : Nat) (s : State) : Host.Outcome State Fault Refusal :=
  takeRequest q 0x02 (fun t =>
    match flyerNamed flyer with
    | none => refuse .badValue [] t
    | some f => report (.flyer (flyerView t f)) t) s

/-- READ_AXIS (R188). -/
def execReadAxis (q : Req) (axis : Nat) (s : State) : Host.Outcome State Fault Refusal :=
  takeRequest q 0x03 (fun t =>
    match axisNamed axis with
    | none => refuse .badValue [] t
    | some a => report (.axis (axisView t a)) t) s

/-- READ_ZONE (R189). -/
def execReadZone (q : Req) (zone : Nat) (s : State) : Host.Outcome State Fault Refusal :=
  takeRequest q 0x04 (fun t =>
    match zoneNamed zone with
    | none => refuse .badValue [] t
    | some z => report (.zone (t.zone z)) t) s

/-- READ_CUE (R79). -/
def execReadCue (q : Req) (cue start : Nat) (s : State) : Host.Outcome State Fault Refusal :=
  takeRequest q 0x05 (readCueBody cue start) s

/-- READ_LOG (R189). -/
def execReadLog (q : Req) (start : Nat) (s : State) : Host.Outcome State Fault Refusal :=
  takeRequest q 0x06 (readLogBody start) s

/-- READ_COUNTERS (R190). -/
def execReadCounters (q : Req) (s : State) : Host.Outcome State Fault Refusal :=
  takeRequest q 0x07 (fun t => report (.counters (countersView t)) t) s

end Sys2Proof.Machine
end

