-- ==== Sys2Proof/Machine/Walk.lean ====
section
/-! DEFINITION. Walking a cue's records: one record taken at a position with a stack of return and repeat entries, as
the record interpreter, the pre-flight expansion and the remaining path all do it (R57, R84, R100, R101). -/

namespace Sys2Proof.Machine

/-- A record position with its stack, top first. -/
structure Cursor where
  cue : Nat
  record : Nat
  stack : List StackEntry

/-- The records of a cue; none where the directory has no such number. -/
def recordsOf (dir : List Cue) (n : Nat) : List CueRecord :=
  match cueOf dir n with
  | some c => c.recs
  | none => []

/-- The record at a position, absent at the end of a cue (R101). -/
def recordAt (dir : List Cue) (cue record : Nat) : Option Rec := (recordsOf dir cue)[record]?.bind CueRecord.view

/-- What one record leads to. -/
inductive Reached where
  /-- A MOVE, with the position past it. -/
  | move (m : Move) (next : Cursor)
  /-- A MARK, with the position past it. -/
  | mark (number : Nat) (next : Cursor)
  /-- A WAIT, with the position past it. -/
  | wait (next : Cursor)
  /-- A CALL, a REPEAT, an END_REPEAT or the end of a called cue. -/
  | goto (next : Cursor)
  /-- The end of the top cue. -/
  | finish

/-- The record at the cursor, taken (R84, R101). `cap` is what a REPEAT's count is counted as: the count itself in a
run, at most 2 in an expansion. The shapes that no balanced cue reaches are a DESIGN CHOICE (log entry 30). -/
def Cursor.take (dir : List Cue) (cap : Nat → Nat) (c : Cursor) : Reached :=
  let past : Cursor := { c with record := c.record + 1 }
  match recordAt dir c.cue c.record with
  | some (.move m) => .move m past
  | some (.mark n) => .mark n past
  | some .wait => .wait past
  | some (.call n) => .goto { cue := n, record := 0, stack := .ret c.cue (c.record + 1) :: c.stack }
  | some (.rep k) => .goto { past with stack := .rep c.cue (c.record + 1) (cap k) :: c.stack }
  | some .endRep =>
    match c.stack with
    | .rep q b (n + 2) :: rest => .goto { cue := q, record := b, stack := .rep q b (n + 1) :: rest }
    | .rep _ _ _ :: rest => .goto { past with stack := rest }
    | _ => .goto past
  | none =>
    match c.stack with
    | .ret q r :: rest => .goto { cue := q, record := r, stack := rest }
    | _ => .finish

/-- A count taken as at most 2 (R57, R84). -/
def atMostTwo (n : Nat) : Nat := if n ≤ 2 then n else 2

/-! ## A run of the record interpreter (R100) -/

/-- How a run of the interpreter ends. `unended` is a walk longer than the walk bound, which no accepted run makes
(log entry 10). -/
inductive InterpreterEnd where
  | move (m : Move) (cue record : Nat)
  | wait
  | runEnd
  | unended

/-- What a run of the interpreter leaves: its position, the last MARK's number and how many MARKs it passed. -/
structure Interpreted where
  pos : Cursor
  lastMark : Option Nat
  marks : Nat
  stop : InterpreterEnd

/-- The interpreter reads record after record until a MOVE, a WAIT or the end of the top cue (R100). -/
def interpret (dir : List Cue) : Nat → Cursor → Option Nat → Nat → Interpreted
  | 0, c, lm, k => ⟨c, lm, k, .unended⟩
  | fuel + 1, c, lm, k =>
    match c.take dir (fun n => n) with
    | .move m next => ⟨next, lm, k, .move m c.cue c.record⟩
    | .mark n next => interpret dir fuel next (some n) (k + 1)
    | .wait next => ⟨next, lm, k, .wait⟩
    | .goto next => interpret dir fuel next lm k
    | .finish => ⟨c, lm, k, .runEnd⟩

/-! ## The waypoints of a remaining path (R57) -/

/-- A stack with every remaining count taken as at most 2 (R57). -/
def cappedStack (st : List StackEntry) : List StackEntry :=
  st.map fun e =>
    match e with
    | .ret q r => .ret q r
    | .rep q b n => .rep q b (atMostTwo n)

/-- The waypoints, in mm, that the walk from a cursor reaches, repeats taken at most twice (R57). -/
def waypointsFrom (dir : List Cue) : Nat → Cursor → List Vec3
  | 0, _ => []
  | fuel + 1, c =>
    match c.take dir atMostTwo with
    | .move m next => m.waypoint :: waypointsFrom dir fuel next
    | .mark _ next => waypointsFrom dir fuel next
    | .wait next => waypointsFrom dir fuel next
    | .goto next => waypointsFrom dir fuel next
    | .finish => []

/-- A list of points as the segments between successive ones. -/
def successivePairs : List Vec3 → List (Vec3 × Vec3)
  | p :: q :: rest => (p, q) :: successivePairs (q :: rest)
  | _ => []

/-- The position a run's records are read at. -/
def Run.cursor (r : Run) : Cursor := { cue := r.posCue, record := r.posRecord, stack := r.stack }

/-- A flyer whose remaining path SET_ZONE tests (R57). -/
def hasRemainingPath (st : FlyerState) (r : Run) : Bool :=
  match st with
  | .releasing => decide (r.pending = some .cue)
  | .cueRun _ | .holding | .held _ | .stopping _ => decide (r.kind = .path)
  | .undefined | .unready | .unlocated | .parked | .jogging | .faulted => false

/-- The end of the current segment is part of the remaining path in every state but RELEASING, DWELLING and WAITING
(R57). Where there is no current segment, as in a flyer stopped in WAITING before its first MOVE, segment 0 runs to the
next waypoint (DESIGN CHOICE: log entry 36). -/
def currentEnd (st : FlyerState) (r : Run) : List Vec3 :=
  match st, r.seg with
  | .releasing, _ | .cueRun .dwelling, _ | .cueRun .waiting, _ | .held .dwelling, _ | .held .waiting, _ => []
  | _, some g => [roundPoint g.stop]
  | _, none => []

/-- The segments of the remaining path of a run's leader, in rounded µm of the rig coordinates, from segment 0 on
(R57). -/
def remainingSegments (dir : List Cue) (kind : RigKind) (st : FlyerState) (p : Vec3) (r : Run) : List (Vec3 × Vec3) :=
  let later := waypointsFrom dir Config.walkBound { r.cursor with stack := cappedStack r.stack }
  successivePairs (roundPoint p :: (currentEnd st r ++ later.map fun w => mmToMicrons (readByKind kind w)))

end Sys2Proof.Machine
end

