-- ==== Sys2Proof/Machine/Airspace.lean ====
section
/-! DEFINITION. The airspace's requests: SET_ZONE with its test of the remaining paths, and SET_SEPARATION (R55 to
R57). -/

namespace Sys2Proof.Machine

/-- The remaining path of a flyer as ring segments, by its leader's run and its own offset (R52, R57). -/
def remainingPath (s : State) (f : FlyerId) : List (Vec3 × Vec3) :=
  let l := leaderOf s f
  let off := match (concerned s f).find? fun e => decide (e.1 = f) with
    | some e => mmToMicrons e.2
    | none => Vec3.zero
  match rigOf s l, (s.flyer l).point, (s.flyer l).run with
  | some r, some p, some run =>
    if hasRemainingPath (s.flyer l).state run then
      (remainingSegments s.dir r.kind (s.flyer l).state p run).map fun g =>
        ((ringOfRounded r g.1).add off, (ringOfRounded r g.2).add off)
    else []
  | _, _, _ => []

/-- The index of the first segment that enters the guard box of a zone (R50, R57). -/
def firstEntering (b : Box) : Nat → List (Vec3 × Vec3) → Option Nat
  | _, [] => none
  | i, g :: rest => if segmentEnters Config.guardMicrons b g.1 g.2 then some i else firstEntering b (i + 1) rest

/-- The first flyer in the mask, and its segment, whose remaining path the new record would cut (R56, R57). -/
def pathCut (s : State) (z : Zone) : Option (FlyerId × Nat) :=
  allFlyers.findSome? fun f =>
    if z.applies f then (firstEntering z.box 0 (remainingPath s f)).map fun i => (f, i) else none

/-- The first defined, located flyer in the mask whose ring point lies in the box (R56). -/
def zoneOccupant (s : State) (z : Zone) : Option FlyerId :=
  allFlyers.find? fun f =>
    match (s.flyer f).located, ringOf s f with
    | true, some p => z.applies f && z.box.holds p
    | _, _ => false

/-- SET_ZONE at the airspace (R56). -/
def setZoneBody (zone : Nat) (fields : ZoneFields) (s : State) : State × Reply :=
  match zoneNamed zone, zoneOf fields with
  | some n, some z =>
    if saving s then refuse .busy [] s
    else match zoneOccupant s z with
    | some f => refuse .occupied [⟨.flyer, f.val⟩] s
    | none =>
      match pathCut s z with
      | some e => refuse .inUse [⟨.flyer, e.1.val⟩, ⟨.pathSegment, e.2⟩] s
      | none => done (s.setZone n z)
  | _, _ => refuse .badValue [] s

/-- Two flyers are members of one formation (R53). -/
def sameFormation (s : State) (f g : FlyerId) : Bool := (concernedFlyers s f).contains g

/-- The ring point of a flyer that is defined and located (R53). -/
def locatedRing (s : State) (f : FlyerId) : Option Vec3 := if (s.flyer f).located then ringOf s f else none

/-- Two different flyers, of no one formation, both located and closer than a distance (R53, R55). -/
def pairTooClose (s : State) (dsep : Nat) (f g : FlyerId) : Bool :=
  match locatedRing s f, locatedRing s g with
  | some p, some q => decide (f ≠ g) && !sameFormation s f g && closer dsep p q
  | _, _ => false

/-- The pairs of flyers in flyer number order. -/
def flyerPairs : List (FlyerId × FlyerId) := [(0, 1), (0, 2), (0, 3), (1, 2), (1, 3), (2, 3)]

/-- SET_SEPARATION at the airspace (R55). -/
def setSeparationBody (dsep : Nat) (s : State) : State × Reply :=
  if separationInRange dsep = false then refuse .badValue [] s
  else if saving s then refuse .busy [] s
  else match flyerPairs.find? fun e => pairTooClose s dsep e.1 e.2 with
  | some e => refuse .occupied [⟨.flyer, e.1.val⟩, ⟨.flyer, e.2.val⟩] s
  | none => done { s with dsep := dsep }

/-- SET_ZONE (R56). -/
def execSetZone (q : Req) (zone : Nat) (fields : ZoneFields) (s : State) : Host.Outcome State Fault Refusal :=
  takeRequest q 0x28 (setZoneBody zone fields) s

/-- SET_SEPARATION (R55). -/
def execSetSeparation (q : Req) (dsep : Nat) (s : State) : Host.Outcome State Fault Refusal :=
  takeRequest q 0x29 (setSeparationBody dsep) s

end Sys2Proof.Machine
end

