-- ==== Sys2Proof/Machine/Interpreter.lean ====
section
/-! DEFINITION. The record interpreter on a run: the formation limits, segments, marks, arrivals and the end of a run
and of a stop (R98 to R107, R120, R122). -/

namespace Sys2Proof.Machine

/-! ## Limits (R98) -/

/-- The limits a run flies under. -/
structure Limits where
  vp : Nat
  ap : Nat
  astop : Nat

/-- The lesser of two limits, one by one. -/
def Limits.least (a b : Limits) : Limits := ⟨min a.vp b.vp, min a.ap b.ap, min a.astop b.astop⟩

/-- A definition's own limits. -/
def limitsOfDef (d : FlyerDef) : Limits := ⟨d.vp, d.ap, d.astop⟩

/-- The limits of a flyer, or the formation limits of the formation it leads: the least of every member's (R98). -/
def limitsOf (s : State) (f : FlyerId) : Limits :=
  match (concernedFlyers s f).filterMap fun g => (s.flyer g).defn.map limitsOfDef with
  | [] => ⟨0, 0, 0⟩
  | l :: rest => rest.foldl Limits.least l

/-! ## Segments (R102) -/

/-- The MARK numbers up to the next MOVE in a list of records that begins at index i, with that MOVE and its index;
none where a record of another kind, or the end, comes first (R102, R110). -/
def upToMove : List CueRecord → Nat → List Nat → Option (List Nat × Move × Nat)
  | [], _, _ => none
  | r :: rest, i, ms =>
    match CueRecord.view r with
    | some (.mark n) => upToMove rest (i + 1) (ms ++ [n])
    | some (.move m) => some (ms, m, i)
    | _ => none

/-- The MOVE that the records of a cue lead to from an index, MARKs between skipped. -/
def nextMove (dir : List Cue) (cue i : Nat) : Option (List Nat × Move × Nat) := upToMove ((recordsOf dir cue).drop i) i []

/-- The rig kind of a cue's header; that of a missing cue is not used. -/
def kindOfCue (dir : List Cue) (cue : Nat) : RigKind :=
  match cueOf dir cue with
  | some c => c.kind
  | none => .spatial4

/-- The cap of a MOVE's segment, µm/s (R102). -/
def capOf (vp : Nat) (m : Move) : Int := 1000 * (min (if m.speed = 0 then vp else m.speed) vp : Nat)

/-- A MOVE ends at a stop point: its stop flag is set, or no MOVE follows it in its cue but for MARKs (R102). -/
def endsAtStop (dir : List Cue) (m : Move) (cue record : Nat) : Bool :=
  m.isStop || (nextMove dir cue (record + 1)).isNone

/-- The segment of a MOVE from a point (R102). -/
def segmentOf (dir : List Cue) (vp : Nat) (start : Vec3) (m : Move) (cue record : Nat) : Segment :=
  let stop := mmToNano (readByKind (kindOfCue dir cue) m.waypoint)
  { start := start, stop := stop, len := magnitude (stop.sub start), cap := capOf vp m,
    isStop := endsAtStop dir m cue record, cue := cue, record := record }

/-! ## Marks (R106) -/

/-- A flyer takes the MARKs passed: the last number, and one count for each. -/
def takeMarks (ms : List Nat) (x : Flyer) : Flyer :=
  { x with mark := ms.getLast?.getD x.mark, markCount := (x.markCount + ms.length) % 65536 }

/-- Every flyer concerned takes the MARKs passed (R106). -/
def passMarks (fs : List FlyerId) (ms : List Nat) (s : State) : State :=
  forEach fs (fun g => modFlyer g (takeMarks ms)) s

/-- A flyer takes MARKs of which only the last number and the count are kept. -/
def takeMarkRun (last : Option Nat) (k : Nat) (x : Flyer) : Flyer :=
  { x with mark := last.getD x.mark, markCount := (x.markCount + k) % 65536 }

/-! ## A run of the interpreter (R100, R107) -/

/-- A run's record position and stack. -/
def Run.placed (c : Cursor) (r : Run) : Run := { r with posCue := c.cue, posRecord := c.record, stack := c.stack }

/-- What the end of an interpreter's walk does to the flyer and its formation (R100, R102, R107). -/
def interpreterOutcome (f : FlyerId) (p : Vec3) (stop : InterpreterEnd) (s : State) : State :=
  let fs := concernedFlyers s f
  match stop with
  | .move m cue record =>
    let g := segmentOf s.dir (limitsOf s f).vp p m cue record
    setStates fs (.cueRun .moving) (modRun f (fun r => { r with seg := some g, d := 0, v := 0 }) s)
  | .wait => setStates fs (.cueRun .waiting) (modRun f (fun r => { r with v := 0 }) s)
  | .runEnd => leaveRun f .parked s
  | .unended => s

/-- The record interpreter runs on from the record position of a flyer's run (R100 to R102, R106, R107). -/
def runInterpreter (f : FlyerId) (s : State) : State :=
  match (s.flyer f).run, (s.flyer f).point with
  | some r, some p =>
    let out := interpret s.dir Config.walkBound r.cursor none 0
    let s1 := forEach (concernedFlyers s f) (fun g => modFlyer g (takeMarkRun out.lastMark out.marks)) s
    interpreterOutcome f p out.stop (modRun f (Run.placed out.pos) s1)
  | _, _ => s

/-! ## Arrivals, holds and ends (R103, R120, R122, R135) -/

/-- The dwell in ms that an arrival at the end of a segment starts: the MOVE's, where its stop flag is set (R103). -/
def dwellOf (dir : List Cue) (g : Segment) : Nat :=
  match recordAt dir g.cue g.record with
  | some (.move m) => if m.isStop then m.dwell else 0
  | _ => 0

/-- An arrival at a stop point, handled as in CUE_RUN (R103). -/
def handleArrival (f : FlyerId) (s : State) : State :=
  match (s.flyer f).run.bind fun r => r.seg with
  | none => s
  | some g =>
    if 0 < dwellOf s.dir g then
      setStates (concernedFlyers s f) (.cueRun .dwelling)
        (modRun f (fun r => { r with dwell := frames (dwellOf s.dir g) s.t }) s)
    else runInterpreter f s

/-- A hold applied to the outcome of an arrival (R120). -/
def holdOutcome (f : FlyerId) (s : State) : State :=
  match (s.flyer f).state with
  | .cueRun p => setStates (concernedFlyers s f) (.held p) s
  | _ => s

/-- The end of a stop by its reason (R122, R135). -/
def endStop (f : FlyerId) (why : StopReason) (s : State) : State :=
  match why with
  | .request => leaveRun f .parked s
  | .fault | .allStop => leaveRun f .faulted s

/-! ## Release (R37, R38, R99) -/

/-- A flyer and its formation enter RELEASING with a new run context (R37, R92, R125). -/
def enterReleasing (f : FlyerId) (r : Run) (s : State) : State :=
  let fs := concernedFlyers s f
  modFlyer f (fun x => { x with run := some r }) (forEach fs engage (setStates fs .releasing s))

/-- The release of a flyer completes, by its pending start (R38, R99; DEDUCED: log entry 31). -/
def completeRelease (f : FlyerId) (s : State) : State :=
  let fs := concernedFlyers s f
  match (s.flyer f).run.bind fun r => r.pending with
  | some .cue =>
    runInterpreter f (setStates fs (.cueRun .moving) (modRun f (fun r => { r with pending := none, brake := 0, v := 0 }) s))
  | some .jog =>
    setStates fs .jogging (modRun f (fun r => { r with pending := none, brake := 0, jogV := Vec3.zero }) s)
  | none => s

/-- The release test: a flyer in RELEASING whose members all report their brakes released leaves it (R37, R38). -/
def testRelease (f : FlyerId) (s : State) : State :=
  if (s.flyer f).state = .releasing ∧ brakesReleased s f then completeRelease f s else s

end Sys2Proof.Machine
end

