-- ==== Sys2Proof/Machine/Feedback.lean ====
section
/-! DEFINITION. Feedback at a drive port: validity, axis supervision, readiness and the release test (R25, R38, R99,
R140, R141, R143 to R147). -/

namespace Sys2Proof.Machine

/-! ## Validity (R140) -/

/-- A frame of the right length and CRC-16 is valid: its echo equals the last sequence sent and the port is not yet
answered (R140). -/
def Port.accepts (x : Port) (echo : Nat) : Bool := decide (x.last.map BitVec.toNat = some echo) && !x.answered

/-- A discarded feedback frame (R140). -/
def discardFeedback (p : PortId) (s : State) : State := modPort p (fun x => { x with discarded := x.discarded + 1 }) s

/-! ## Supervision (R143 to R147) -/

/-- The rise of a flag of the feedback: set now, and clear or absent before (R146, R147). -/
def rose (flag : Feedback → Bool) (prev : Option Feedback) (fb : Feedback) : Bool :=
  flag fb && !(match prev with
    | some x => flag x
    | none => false)

/-- The following error of an axis at an arrival, in counts (R144). -/
def followingError (x : Axis) (fb : Feedback) : Int := ((x.previous - fb.counts).natAbs : Int)

/-- The following error exceeds the limit of the parameter set (R144). -/
def followingFails (x : Axis) (fb : Feedback) : Bool :=
  match x.params with
  | some p => decide ((p.feLimit : Int) < followingError x fb)
  | none => false

/-- The load is below the slack threshold (R145). -/
def slackLoad (x : Axis) (fb : Feedback) : Bool :=
  match x.params with
  | some p => decide (fb.load < p.slackMin)
  | none => false

/-- The slack persistence count after an arrival at an ENGAGED axis (R145). -/
def slackAfter (x : Axis) (fb : Feedback) : Nat := if slackLoad x fb then x.slack + 1 else 0

/-- The tests of R143 that stand before the slack test: the first that finds a fault, with its detail. -/
def firstFault (x : Axis) (fb : Feedback) : Option (FaultCode × Detail) :=
  let referenced := decide (x.state = .ready ∨ x.state = .engaged)
  if fb.driveFault then some (.driveFault, .none)
  else if referenced && !fb.posValid then some (.positionLost, .none)
  else if overloaded x.params fb.load then some (.overload, .number (fb.load : Nat))
  else if decide (x.state = .engaged) && followingFails x fb then
    some (.followingError, .number (followingError x fb))
  else none

/-- Supervision of an axis in UNREFERENCED, READY or ENGAGED (R143 to R145). -/
def superviseSound (a : AxisId) (fb : Feedback) (s : State) : State :=
  let x := s.axis a
  match firstFault x fb with
  | some e => axisFault e.1 e.2 a s
  | none =>
    if x.state = .engaged then
      if 3 ≤ slackAfter x fb then axisFault .slack (.number (fb.load : Nat)) a s
      else modAxis a (fun y => { y with slack := slackAfter x fb }) s
    else if x.state = .unreferenced ∧ fb.posValid then modAxis a (fun y => { y with state := .ready }) s
    else s

/-- Supervision of a FAULTED axis: the rising conditions are logged (R147). -/
def superviseFaulted (a : AxisId) (fb : Feedback) (prev : Option Feedback) (s : State) : State :=
  let p := (s.axis a).params
  let lost := match prev with
    | some x => x.posValid && !fb.posValid
    | none => false
  let s1 := if rose Feedback.driveFault prev fb then axisFault .driveFault .none a s else s
  let s2 := if lost then axisFault .positionLost .none a s1 else s1
  if rose (fun x => overloaded p x.load) prev fb then axisFault .overload (.number (fb.load : Nat)) a s2 else s2

/-- DRIVE_WARNING on its rise (R146). -/
def warn (a : AxisId) (fb : Feedback) (prev : Option Feedback) (s : State) : State :=
  if rose Feedback.driveWarning prev fb then
    logCause { code := .driveWarning, axis := some a, station := none, detail := .none } .note (flyerOfAxis s a) s
  else s

/-- Axis supervision at a valid arrival; `prev` is the latest feedback before it (R143, R146, R147; the order of the
log entries is a DESIGN CHOICE: log entry 18). -/
def supervise (a : AxisId) (fb : Feedback) (prev : Option Feedback) (s : State) : State :=
  match (s.axis a).state with
  | .unmapped => s
  | .faulted => warn a fb prev (superviseFaulted a fb prev s)
  | .unreferenced | .ready | .engaged => warn a fb prev (superviseSound a fb s)

/-! ## A valid arrival (R141) -/

/-- A port after a valid frame (R141 step 1). -/
def Port.answeredOne (x : Port) : Port := { x with answered := true, miss := 0, good := x.good + 1 }

/-- The latest feedback of the axis of a slot (R141 step 2). -/
def takeFeedback (a : Option AxisId) (fb : Feedback) (s : State) : State :=
  match a with
  | some a => modAxis a (fun x => { x with feedback := some fb }) s
  | none => s

/-- Supervision of the axis of a slot (R141 step 3). -/
def superviseSlot (a : Option AxisId) (fb : Feedback) (before s : State) : State :=
  match a with
  | some a => supervise a fb (before.axis a).feedback s
  | none => s

/-- The flyer has a member on a port (R141). -/
def memberOn (s : State) (p : PortId) (f : FlyerId) : Bool := (membersOf s f).any fun a => (s.port p).active.has a

/-- The readiness rule and the release test for the flyers with a member on the port; a formation is tested on its
leader (R141 step 4). -/
def settlePort (p : PortId) (s : State) : State :=
  let s1 := forEach (allFlyers.filter (memberOn s p)) readiness s
  forEach (allFlyers.filter fun f => !isFollower s1 f && (concernedFlyers s1 f).any (memberOn s1 p)) testRelease s1

/-- A valid feedback frame, taken as one event (R141). -/
def acceptFeedback (p : PortId) (slot0 slot1 : Feedback) (s : State) : State :=
  let t := (s.port p).active
  let s1 := takeFeedback t.slot1 slot1 (takeFeedback t.slot0 slot0 (modPort p Port.answeredOne s))
  settlePort p (superviseSlot t.slot1 slot1 s (superviseSlot t.slot0 slot0 s s1))

/-! ## The meanings -/

/-- FEEDBACK_FRAME (R140, R141). -/
def execFeedbackFrame (port : PortId) (echo : Nat) (slot0 slot1 : Feedback) (s : State) :
    Host.Outcome State Fault Refusal :=
  whileRunning s fun t =>
    if (t.port port).accepts echo then acceptFeedback port slot0 slot1 t else discardFeedback port t

/-- FEEDBACK_DISCARDED (R140). -/
def execFeedbackDiscarded (port : PortId) (s : State) : Host.Outcome State Fault Refusal :=
  whileRunning s (discardFeedback port)

end Sys2Proof.Machine
end

