-- ==== Sys2Proof/Machine/Advance.lean ====
section
/-! DEFINITION. What the frame advance of a cue and of a jog share: the members' points of a candidate, the geometric
test, line-rate governing, separation and the commit (R114, R115, R117, R118, R132, R133). -/

namespace Sys2Proof.Machine

/-- The points of the flyers concerned for a candidate point of the leader: the candidate plus each offset (R98). -/
def memberPoints (fs : List (FlyerId × Vec3)) (p : Vec3) : List (FlyerId × Vec3) :=
  fs.map fun e => (e.1, p.add (mmToNano e.2))

/-- The first flyer, in formation order, whose point fails the geometric condition, and the part that fails (R12,
R114, R118). That only the first is named where several fail is a DESIGN CHOICE (log entry 35). -/
def geometryFault (s : State) : List (FlyerId × Vec3) → Option (FlyerId × CheckKind)
  | [] => none
  | e :: rest =>
    match (rigOf s e.1).bind fun r => geometryFailure r e.2 with
    | some k => some (e.1, k)
    | none => geometryFault s rest

/-- The line lengths of every member of every flyer, in formation order and member order (R115). -/
def allLengths (s : State) (pts : List (FlyerId × Vec3)) : List (AxisId × AxisParams × Int) :=
  pts.flatMap fun e =>
    match rigOf s e.1 with
    | some r => lineLengths r e.2
    | none => []

/-- The change of one line on a frame, and its limit, in µm (R115). -/
structure LineStep where
  delta : Int
  limit : Int

/-- The changes of the lines from their committed lengths. A member that is not ENGAGED has no committed length and
takes no part (log entry 9). -/
def lineSteps (s : State) (ls : List (AxisId × AxisParams × Int)) : List LineStep :=
  ls.filterMap fun l =>
    ((s.axis l.1).committed).map fun c => ⟨((l.2.2 - c).natAbs : Int), (l.2.1.vline * s.t : Nat)⟩

/-- The line with the greatest ratio of change to limit, the first of equals (R115). -/
def greatestRatio : LineStep → List LineStep → LineStep
  | best, [] => best
  | best, l :: rest => greatestRatio (if best.delta * l.limit < l.delta * best.limit then l else best) rest

/-- The governing line, where some line exceeds its limit (R115). -/
def governingLine (ls : List LineStep) : Option LineStep :=
  match ls with
  | [] => none
  | l :: rest => if ls.any (fun x => decide (x.limit < x.delta)) then some (greatestRatio l rest) else none

/-- The first other flyer, in flyer number order, that a candidate ring point is too close to: defined, located, in no
formation with the flyer tested, at its point as it stood before the frame (R53). On the frame of the cut-off expiry a
flyer that the expiry has reached already is not located and is passed over (DESIGN CHOICE: log entry 5). -/
def tooCloseTo (before : State) (f : FlyerId) (p : Vec3) : Option FlyerId :=
  allFlyers.find? fun g =>
    decide (g ≠ f) && !(concernedFlyers before f).contains g &&
      (match (before.flyer g).located, ringOf before g with
       | true, some o => closer before.dsep p o
       | _, _ => false)

/-- The first member, in formation order, that fails the separation test, and the other flyer (R53, R118). That members
after the first failing one raise no SEPARATION of their own is a DESIGN CHOICE (R54, R117; log entry 35). -/
def separationFailure (before : State) : List (FlyerId × Vec3) → Option (FlyerId × FlyerId)
  | [] => none
  | e :: rest =>
    match (rigOf before e.1).bind fun r => tooCloseTo before e.1 (ringPoint r e.2) with
    | some g => some (e.1, g)
    | none => separationFailure before rest

/-- An engaged axis takes its new committed length and its counts (R97). -/
def commitAxis (p : AxisParams) (len : Int) (x : Axis) : Axis :=
  if x.state = .engaged then { x with committed := some len, outgoing := countsOf p len } else x

/-- The commit of points, committed lengths, set-points and indications (R117, R133). -/
def commitPoints (pts : List (FlyerId × Vec3)) (governed atLimit : Bool) (s : State) : State :=
  let s1 := forEach (allLengths s pts) (fun l => modAxis l.1 (commitAxis l.2.1 l.2.2)) s
  forEach pts (fun e => modFlyer e.1 fun x =>
    { x with point := some e.2, governed := governed, atLimit := atLimit }) s1

end Sys2Proof.Machine
end

