-- ==== Sys2Proof/Machine/Preflight.lean ====
section
/-! DEFINITION. The pre-flight check: the expansion of a cue, the tests of the start point, of every waypoint and of
every segment, and the engagement check (R82 to R91). -/

namespace Sys2Proof.Machine

/-! ## The expansion (R84 to R86) -/

/-- An entry of the expanded move list: the waypoint in mm and the record of the MOVE. -/
structure ExpandedMove where
  waypoint : Vec3
  cue : Nat
  record : Nat

/-- An expansion under way: its cursor, the moves listed (last first) and how many, and its reach set. -/
structure Expansion where
  pos : Cursor
  moves : List ExpandedMove
  count : Nat
  reach : List Nat

/-- An expansion failure: the check kind, the record concerned and the cue number named. -/
structure ExpansionFailure where
  kind : CheckKind
  record : Option (Nat × Nat)
  cue : Option Nat

/-- The checks of a CALL (R85). -/
def callFailure (dir : List Cue) (kind : RigKind) (e : Expansion) (n : Nat) : Option ExpansionFailure :=
  let here := some (e.pos.cue, e.pos.record)
  match cueOf dir n with
  | none => some ⟨.missingCue, here, some n⟩
  | some c =>
    if c.kind ≠ kind then some ⟨.rigKind, here, some n⟩
    else if Config.stackPlaces ≤ e.pos.stack.length then some ⟨.depth, here, none⟩
    else if e.reach.contains n = false ∧ Config.reachPlaces ≤ e.reach.length then some ⟨.reach, here, some n⟩
    else none

/-- The checks of the record the expansion stands at, before it is taken (R85, R86). -/
def recordFailure (dir : List Cue) (kind : RigKind) (e : Expansion) : Option ExpansionFailure :=
  match recordAt dir e.pos.cue e.pos.record with
  | some (.call n) => callFailure dir kind e n
  | some (.rep _) =>
    if Config.stackPlaces ≤ e.pos.stack.length then some ⟨.depth, some (e.pos.cue, e.pos.record), none⟩ else none
  | some (.move _) =>
    if Config.movePlaces ≤ e.count then some ⟨.length, some (e.pos.cue, e.pos.record), none⟩ else none
  | _ => none

/-- The reach set after the record the expansion stands at (R84, R85). -/
def reachAfter (dir : List Cue) (e : Expansion) : List Nat :=
  match recordAt dir e.pos.cue e.pos.record with
  | some (.call n) => if e.reach.contains n then e.reach else e.reach ++ [n]
  | _ => e.reach

/-- The expansion, record by record, to its end or its first failure (R84 to R86). A walk longer than the walk bound,
which the depth limit rules out, is reported as LENGTH (log entry 10). -/
def expand (dir : List Cue) (kind : RigKind) : Nat → Expansion → Expansion × Option ExpansionFailure
  | 0, e => (e, some ⟨.length, some (e.pos.cue, e.pos.record), none⟩)
  | fuel + 1, e =>
    match recordFailure dir kind e with
    | some x => (e, some x)
    | none =>
      let reach := reachAfter dir e
      match e.pos.take dir atMostTwo with
      | .move m next =>
        expand dir kind fuel
          { pos := next, moves := ⟨m.waypoint, e.pos.cue, e.pos.record⟩ :: e.moves, count := e.count + 1,
            reach := reach }
      | .mark _ next => expand dir kind fuel { e with pos := next }
      | .wait next => expand dir kind fuel { e with pos := next }
      | .goto next => expand dir kind fuel { e with pos := next, reach := reach }
      | .finish => (e, none)

/-- The expansion of a started cue for a rig kind (R84). -/
def expandCue (dir : List Cue) (kind : RigKind) (cue : Nat) : Expansion × Option ExpansionFailure :=
  let e : Expansion := { pos := { cue := cue, record := 0, stack := [] }, moves := [], count := 0, reach := [cue] }
  match cueOf dir cue with
  | none => (e, some ⟨.missingCue, none, some cue⟩)
  | some c => if c.kind ≠ kind then (e, some ⟨.rigKind, none, some cue⟩) else expand dir kind Config.walkBound e

/-! ## The tests (R87 to R90) -/

/-- The zone or axis a failure names (R91). -/
def failureItem (x : Failure) : Option Item :=
  match x.zone, x.axis with
  | some z, _ => some ⟨.zone, z.val⟩
  | none, some a => some ⟨.axis, a.val⟩
  | none, none => none

/-- The start point test of the flyers concerned (R87). -/
def startFailure (s : State) : List (FlyerId × Vec3) → Option Report
  | [] => none
  | e :: rest =>
    match rigOf s e.1, (s.flyer e.1).point with
    | some r, some p =>
      match pointFailure s.zones e.1 r p with
      | some x => some ⟨x.kind, .start, 0, e.1, none, failureItem x⟩
      | none => startFailure s rest
    | _, _ => startFailure s rest

/-- The waypoint and the segment into it for one flyer: `start` and `stop` are the leader's ends in rounded µm of the
rig coordinates, `off` the flyer's offset in mm (R52, R83, R88). -/
def moveFailureFor (s : State) (k : Nat) (m : ExpandedMove) (start : Vec3) (f : FlyerId) (off : Vec3) : Option Report :=
  match rigOf s f with
  | none => none
  | some r =>
    let w := readByKind r.kind (m.waypoint.add off)
    match pointFailure s.zones f r (mmToNano w) with
    | some x => some ⟨x.kind, .waypoint, k, f, some (m.cue, m.record), failureItem x⟩
    | none =>
      match segmentFailure s.zones f r (start.add (mmToMicrons off)) (mmToMicrons w) with
      | some x => some ⟨x.kind, .segment, k, f, some (m.cue, m.record), failureItem x⟩
      | none => none

/-- One expanded move tested for every flyer concerned, in formation order (R88). -/
def moveFailure (s : State) (k : Nat) (m : ExpandedMove) (start : Vec3) : List (FlyerId × Vec3) → Option Report
  | [] => none
  | e :: rest =>
    match moveFailureFor s k m start e.1 e.2 with
    | some x => some x
    | none => moveFailure s k m start rest

/-- Every expanded move tested in order; the segment into each starts at the end of the one before (R88, R89). -/
def pathFailure (s : State) (kind : RigKind) (fs : List (FlyerId × Vec3)) : Nat → Vec3 → List ExpandedMove →
    Option Report
  | _, _, [] => none
  | k, start, m :: rest =>
    match moveFailure s k m start fs with
    | some x => some x
    | none => pathFailure s kind fs (k + 1) (mmToMicrons (readByKind kind m.waypoint)) rest

/-- The first member whose feedback counts stand further from the counts of the point than its following-error limit,
or that has no latest feedback (R90). -/
def engagementMember (s : State) : List (AxisId × AxisParams × Int) → Option AxisId
  | [] => none
  | (a, p, len) :: rest =>
    match (s.axis a).feedback with
    | none => some a
    | some fb =>
      if within (-(p.feLimit : Int)) p.feLimit (countsOf p len - fb.counts) then engagementMember s rest else some a

/-- The engagement check of the flyers concerned (R90). -/
def engagementFailure (s : State) : List (FlyerId × Vec3) → Option Report
  | [] => none
  | e :: rest =>
    match rigOf s e.1, (s.flyer e.1).point with
    | some r, some p =>
      match engagementMember s (lineLengths r p) with
      | some a => some ⟨.engageMismatch, .engagement, 0, e.1, none, some ⟨.axis, a.val⟩⟩
      | none => engagementFailure s rest
    | _, _ => engagementFailure s rest

/-- The tests of a complete expansion, in the fixed order of R89. -/
def testFailure (s : State) (f : FlyerId) (kind : RigKind) (moves : List ExpandedMove) : Option Report :=
  let fs := concerned s f
  match startFailure s fs with
  | some x => some x
  | none =>
    let start := match (s.flyer f).point with
      | some p => roundPoint p
      | none => Vec3.zero
    match pathFailure s kind fs 0 start moves with
    | some x => some x
    | none => engagementFailure s fs

/-- The whole check of a cue for a flyer: its reach set, or the report of the first failure (R81, R89, R91). -/
def preflight (s : State) (f : FlyerId) (kind : RigKind) (cue : Nat) : Except Report (List Nat) :=
  match expandCue s.dir kind cue with
  | (e, some x) =>
    .error ⟨x.kind, .expansion, e.count, f, x.record, x.cue.map fun n => ⟨.cue, n⟩⟩
  | (e, none) =>
    match testFailure s f kind e.moves.reverse with
    | some r => .error r
    | none => .ok e.reach

end Sys2Proof.Machine
end

