-- ==== Sys2Proof/Machine/Motion.lean ====
section
/-! DEFINITION. The motion requests START_CUE, HOLD, RESUME, GO, STOP_FLYER and JOG (R39, R42, R81, R92, R105, R120 to
R122, R125, R126, R135). -/

namespace Sys2Proof.Machine

/-! ## New run contexts (R92, R96, R125) -/

/-- The run context that an accepted START_CUE creates (R92). The progress, the dwell count and the jog part, to which the
rules give no value yet, begin at 0 (R96, R124; DESIGN CHOICE: log entry 42). -/
def newCueRun (cue : Nat) (reach : List Nat) (t : Nat) : Run :=
  { pending := some .cue, kind := .path, cue := some cue, reach := reach, posCue := cue, posRecord := 0, stack := [],
    seg := none, d := 0, v := 0, dwell := 0, brake := frames Config.brakeMs t, jogReq := Vec3.zero, jogValid := 0,
    jogV := Vec3.zero }

/-- The run context that a JOG accepted on a PARKED flyer creates (R125). It has no started cue and an empty reach set, and
its PATH part, to which the rules give no value, stands at 0 (R96; DESIGN CHOICE: log entry 42). -/
def newJogRun (req : Vec3) (t : Nat) : Run :=
  { pending := some .jog, kind := .jog, cue := none, reach := [], posCue := 0, posRecord := 0, stack := [], seg := none,
    d := 0, v := 0, dwell := 0, brake := frames Config.brakeMs t, jogReq := req, jogValid := frames Config.jogMs t,
    jogV := Vec3.zero }

/-! ## START_CUE (R82, R92) -/

/-- The state check of START_CUE, and of JOG on a flyer that is not in JOGGING (R42, R82, R125). -/
def startable : FlyerState → Option ResultCode
  | .parked => none
  | .undefined | .unready | .unlocated => some .notReady
  | .releasing | .cueRun _ | .holding | .held _ | .jogging | .stopping _ | .faulted => some .busy

/-- START_CUE on a flyer that has passed the preconditions (R84 to R92). -/
def startChecked (f : FlyerId) (cue : Nat) (s : State) : State × Reply :=
  match kindOf s f with
  | none => refuse .notReady [] s
  | some k =>
    match preflight s f k cue with
    | .error r => (s, ⟨.preflight, .report r⟩)
    | .ok reach => done (testRelease f (enterReleasing f (newCueRun cue reach s.t) s))

/-- START_CUE at the pre-flight checker and the trajectory unit (R82). -/
def startCueBody (q : Req) (flyer cue : Nat) (s : State) : State × Reply :=
  if within 1 200 cue = false then refuse .badValue [] s
  else motionRequest q true flyer (fun f t =>
    match firstRefused startable t (concernedFlyers t f) with
    | some e => refuse e.2 [] t
    | none => startChecked f cue t) s

/-! ## HOLD, RESUME, GO and STOP_FLYER (R39, R42) -/

/-- HOLD on a flyer (R39, R120). -/
def holdFlyer (f : FlyerId) (s : State) : State × Reply :=
  match (s.flyer f).state with
  | .cueRun .moving => done (setStates (concernedFlyers s f) .holding s)
  | .cueRun .dwelling => done (setStates (concernedFlyers s f) (.held .dwelling) s)
  | .cueRun .waiting => done (setStates (concernedFlyers s f) (.held .waiting) s)
  | .holding | .held _ => done s
  | .undefined | .unready | .unlocated | .parked | .releasing | .jogging | .stopping _ | .faulted => refuse .busy [] s

/-- RESUME on a flyer (R121). -/
def resumeFlyer (f : FlyerId) (s : State) : State × Reply :=
  match (s.flyer f).state with
  | .held p => done (setStates (concernedFlyers s f) (.cueRun p) (modRun f (fun r => { r with v := 0 }) s))
  | .undefined | .unready | .unlocated | .parked | .releasing | .cueRun _ | .holding | .jogging | .stopping _
  | .faulted => refuse .busy [] s

/-- GO on a flyer (R105). -/
def goFlyer (f : FlyerId) (s : State) : State × Reply :=
  match (s.flyer f).state with
  | .cueRun .waiting => done (runInterpreter f s)
  | .cueRun .moving | .cueRun .dwelling | .undefined | .unready | .unlocated | .parked | .releasing | .holding
  | .held _ | .jogging | .stopping _ | .faulted => refuse .busy [] s

/-- STOP_FLYER on a flyer (R38, R39, R42, R122, R135). -/
def stopFlyerAt (f : FlyerId) (s : State) : State × Reply :=
  match (s.flyer f).state with
  | .releasing | .held _ => done (leaveRun f .parked s)
  | .cueRun _ | .holding | .jogging => done (setStates (concernedFlyers s f) (.stopping .request) s)
  | .undefined | .unready | .unlocated | .parked | .stopping _ | .faulted => done s

/-! ## JOG (R125, R126) -/

/-- A number held between two ends. -/
def clampTo (lo hi c : Int) : Int := if c < lo then lo else if hi < c then hi else c

/-- A velocity in µm/s whose magnitude exceeds Vp scaled back to it (R126 step 3, R128). -/
def heldToVp (vp : Nat) (v : Vec3) : Vec3 :=
  if 1000 * (vp : Int) < magnitude v then scaleTowardZero (1000 * (vp : Int)) (magnitude v) v else v

/-- The requested velocity of a JOG (R126). -/
def requestedVelocity (kind : RigKind) (vp : Nat) (v : Vec3) : Vec3 :=
  heldToVp vp ((readByKind kind v).map fun c => 1000 * clampTo (-(vp : Int)) vp c)

/-- JOG on a flyer in JOGGING: a new requested velocity and validity count (R125). -/
def jogAgain (f : FlyerId) (req : Vec3) (s : State) : State :=
  modRun f (fun r => { r with jogReq := req, jogValid := frames Config.jogMs s.t }) s

/-- JOG on a flyer past its owner, enable, all-stop and follower checks (R125). -/
def jogFlyer (velocity : Vec3) (f : FlyerId) (s : State) : State × Reply :=
  match kindOf s f with
  | none => refuse .notReady [] s
  | some k =>
    let req := requestedVelocity k (limitsOf s f).vp velocity
    if (s.flyer f).state = .jogging then done (jogAgain f req s)
    else match firstRefused startable s (concernedFlyers s f) with
    | some e => refuse e.2 [] s
    | none =>
      match engagementFailure s (concerned s f) with
      | some r => (s, ⟨.preflight, .report r⟩)
      | none => done (testRelease f (enterReleasing f (newJogRun req s.t) s))

/-! ## The meanings -/

/-- START_CUE (R81). -/
def execStartCue (q : Req) (flyer cue : Nat) (s : State) : Host.Outcome State Fault Refusal :=
  takeRequest q 0x40 (startCueBody q flyer cue) s

/-- HOLD (R39, R120). -/
def execHold (q : Req) (flyer : Nat) (s : State) : Host.Outcome State Fault Refusal :=
  takeRequest q 0x41 (motionRequest q false flyer holdFlyer) s

/-- RESUME (R121). -/
def execResume (q : Req) (flyer : Nat) (s : State) : Host.Outcome State Fault Refusal :=
  takeRequest q 0x42 (motionRequest q true flyer resumeFlyer) s

/-- GO (R105). -/
def execGo (q : Req) (flyer : Nat) (s : State) : Host.Outcome State Fault Refusal :=
  takeRequest q 0x43 (motionRequest q true flyer goFlyer) s

/-- STOP_FLYER (R122, R135). -/
def execStopFlyer (q : Req) (flyer : Nat) (s : State) : Host.Outcome State Fault Refusal :=
  takeRequest q 0x44 (motionRequest q false flyer stopFlyerAt) s

/-- JOG (R125). -/
def execJog (q : Req) (flyer : Nat) (velocity : Vec3) (s : State) : Host.Outcome State Fault Refusal :=
  takeRequest q 0x45 (motionRequest q true flyer (jogFlyer velocity)) s

end Sys2Proof.Machine
end

