-- ==== Sys2Proof/Machine/JogAdvance.lean ====
section
/-! DEFINITION. The advance of a jog (R127 to R135). -/

namespace Sys2Proof.Machine

/-- The candidate of a jog frame: the leader's candidate point in nm, V' in µm/s, and the two indications. -/
structure JogStep where
  cand : Vec3
  v : Vec3
  atLimit : Bool
  governed : Bool
deriving DecidableEq, Repr

/-! ## The new velocity (R128) -/

/-- A velocity brought toward a target by no more than a step limit, then held to Vp (R128). -/
def nextVelocity (vp : Nat) (limit : Int) (v target : Vec3) : Vec3 :=
  let delta := target.sub v
  let m := magnitude delta
  heldToVp vp (v.add (if limit < m then scaleTowardZero limit m delta else delta))

/-- V' by the flyer's state (R128). -/
def jogVelocity (st : FlyerState) (lim : Limits) (t : Nat) (r : Run) : Vec3 :=
  match st with
  | .stopping _ => nextVelocity lim.vp (lim.astop * t : Nat) r.jogV Vec3.zero
  | _ => nextVelocity lim.vp (lim.ap * t : Nat) r.jogV r.jogReq

/-! ## The volume (R129, R134) -/

/-- The intersection of two boxes, mm. -/
def Box.meet (a b : Box) : Box :=
  { lo := ⟨greater a.lo.x b.lo.x, greater a.lo.y b.lo.y, greater a.lo.z b.lo.z⟩
    hi := ⟨lesser a.hi.x b.hi.x, lesser a.hi.y b.hi.y, lesser a.hi.z b.hi.z⟩ }

/-- A box shifted by minus an offset, mm. -/
def Box.shifted (b : Box) (off : Vec3) : Box := ⟨b.lo.sub off, b.hi.sub off⟩

/-- The intersection of the members' volumes, each shifted by minus its offset (R134). -/
def commonVolume (s : State) (own : Box) (fs : List (FlyerId × Vec3)) : Box :=
  fs.foldl (fun b e =>
    match (s.flyer e.1).defn with
    | some d => b.meet (d.volume.shifted e.2)
    | none => b) own

/-- One component of the candidate clamped to a box, by the ring point of the candidate (R129). -/
def clampComponent (b : Box) (ring : Vec3) (i : Fin 3) (j : JogStep) : JogStep :=
  if component ring i < 1000 * component b.lo i then
    { j with cand := withComponent j.cand (1000000 * component b.lo i) i, v := withComponent j.v 0 i, atLimit := true }
  else if 1000 * component b.hi i < component ring i then
    { j with cand := withComponent j.cand (1000000 * component b.hi i) i, v := withComponent j.v 0 i, atLimit := true }
  else j

/-- One component of the candidate returned to the current point (R129, R130). -/
def returnComponent (here : Vec3) (i : Fin 3) (j : JogStep) : JogStep :=
  { j with cand := withComponent j.cand (component here i) i, v := withComponent j.v 0 i, atLimit := true }

/-- The ring x or y of a PLANAR candidate lies outside the volume (R129). -/
def outsideInPlane (b : Box) (ring : Vec3) : Bool :=
  decide (ring.x < 1000 * b.lo.x ∨ 1000 * b.hi.x < ring.x ∨ ring.y < 1000 * b.lo.y ∨ 1000 * b.hi.y < ring.y)

/-- The candidate held inside the flying volume (R129). -/
def holdInVolume (r : Rig) (b : Box) (here : Vec3) (j : JogStep) : JogStep :=
  let ring := ringPoint r j.cand
  match r.kind with
  | .vertical => clampComponent b ring 2 j
  | .planar =>
    let k := clampComponent b ring 2 j
    if outsideInPlane b ring then returnComponent here 0 k else k
  | .spatial3 | .spatial4 => clampComponent b ring 2 (clampComponent b ring 1 (clampComponent b ring 0 j))

/-! ## Zones (R130, R134) -/

/-- The step segment of some flyer concerned enters a zone that applies to it (R130, R134). -/
def entersZone (s : State) (fs : List (FlyerId × Vec3)) (here cand : Vec3) : Bool :=
  fs.any fun e =>
    match rigOf s e.1 with
    | some r =>
      (zoneOnSegment 0 s.zones e.1 (ringPoint r (here.add (mmToNano e.2))) (ringPoint r (cand.add (mmToNano e.2)))).isSome
    | none => false

/-- The candidate turned aside: while a zone is entered, the first component that still differs returns (R130). -/
def turnAside (s : State) (fs : List (FlyerId × Vec3)) (here : Vec3) : List (Fin 3) → JogStep → JogStep
  | [], j => j
  | i :: rest, j =>
    if entersZone s fs here j.cand then
      turnAside s fs here rest (if component j.cand i = component here i then j else returnComponent here i j)
    else j

/-! ## Blocking and governing (R131 to R133) -/

/-- The step made 0 (R131 to R133). -/
def JogStep.blocked (here : Vec3) (atLimit : Bool) (j : JogStep) : JogStep :=
  { j with cand := here, v := Vec3.zero, atLimit := atLimit }

/-- Some member's point fails the geometric condition or a line limit (R131, R134). -/
def limitsFail (s : State) (pts : List (FlyerId × Vec3)) : Bool :=
  (geometryFault s pts).isSome || (limitFailure (allLengths s pts)).isSome

/-- Governing of a jog step, with up to `n` further passes, on a candidate that passed R131 (R132). A step made 0 because
the lengths still exceed a limit after the third pass leaves AT_LIMIT as R129 and R130 left it (DESIGN CHOICE: log entry
37). -/
def governJog (s : State) (fs : List (FlyerId × Vec3)) (here : Vec3) : Nat → JogStep → JogStep
  | n, j =>
    match governingLine (lineSteps s (allLengths s (memberPoints fs j.cand))) with
    | none =>
      if j.governed then { j with v := (j.cand.sub here).map fun c => towardZero c s.t } else j
    | some g =>
      match n with
      | 0 => JogStep.blocked here j.atLimit { j with governed := true }
      | m + 1 =>
        let k := { j with cand := here.add (scaleTowardZero g.limit g.delta (j.cand.sub here)), governed := true }
        if limitsFail s (memberPoints fs k.cand) then k.blocked here true else governJog s fs here m k

/-- The limits of R131 to R133 on the candidate that R129 and R130 leave. -/
def limitJog (before s : State) (fs : List (FlyerId × Vec3)) (here : Vec3) (j : JogStep) : JogStep :=
  let k := if limitsFail s (memberPoints fs j.cand) then j.blocked here true else governJog s fs here 3 j
  if (separationFailure before (memberPoints fs k.cand)).isSome then k.blocked here true else k

/-- The whole jog step of a frame (R128 to R133). -/
def jogStepOf (before s : State) (f : FlyerId) (rig : Rig) (r : Run) (here : Vec3) : JogStep :=
  let fs := concerned s f
  let v := jogVelocity (s.flyer f).state (limitsOf s f) s.t r
  let j : JogStep := { cand := here.add (v.scale s.t), v := v, atLimit := false, governed := false }
  let j1 := holdInVolume rig (commonVolume s rig.volume fs) here j
  limitJog before s fs here (turnAside s fs here (componentsOf rig.kind) j1)

/-! ## The commit (R133, R135) -/

/-- The end of a jog's stop, at a commit that leaves V zero (R135). -/
def jogRest (f : FlyerId) (j : JogStep) (s : State) : State :=
  match (s.flyer f).state with
  | .stopping why => if j.v = Vec3.zero then endStop f why s else s
  | _ => s

/-- The jog advance of a flyer (R128, R133). -/
def advanceJog (before : State) (f : FlyerId) (s : State) : State :=
  match rigOf s f, (s.flyer f).run, (s.flyer f).point with
  | some rig, some r, some here =>
    let j := jogStepOf before s f rig r here
    jogRest f j (modRun f (fun x => { x with jogV := j.v })
      (commitPoints (memberPoints (concerned s f) j.cand) j.governed j.atLimit s))
  | _, _, _ => s

/-! ## Validity (R127) -/

/-- A validity count above 0 lowered by one; at 0 the requested velocity becomes zero (R127). -/
def Run.aged (r : Run) : Run :=
  match r.jogValid with
  | 0 => r
  | 1 => { r with jogValid := 0, jogReq := Vec3.zero }
  | n + 2 => { r with jogValid := n + 1 }

/-- The validity of a jog on a motion frame (R127). -/
def ageJog (f : FlyerId) (s : State) : State := modRun f Run.aged s

end Sys2Proof.Machine
end

