-- ==== Sys2Proof/Machine/PathAdvance.lean ====
section
/-! DEFINITION. The frame advance of a flyer on a cue path (R108 to R120, R122). -/

namespace Sys2Proof.Machine

/-! ## The candidate speed and the braking bound (R109 to R111) -/

/-- The candidate speed by the flyer's state: `v` the speed, `cap` the cap of the current segment (R109). -/
def candidateSpeed (st : FlyerState) (lim : Limits) (t : Nat) (v cap : Int) : Int :=
  let gain : Int := (lim.ap * t : Nat)
  match st with
  | .cueRun _ => if v < cap then lesser (v + gain) cap else if cap < v then greater (v - gain) cap else cap
  | .holding => greater (v - gain) 0
  | .stopping _ => greater (v - (lim.astop * t : Nat)) 0
  | .undefined | .unready | .unlocated | .parked | .releasing | .held _ | .jogging | .faulted => 0

/-- The segment that follows a segment that ends at a pass-through point, with the MARKs between (R110, R113). -/
def following (dir : List Cue) (vp : Nat) (g : Segment) : Option (List Nat × Segment) :=
  if g.isStop then none
  else (nextMove dir g.cue (g.record + 1)).map fun e => (e.1, segmentOf dir vp g.stop e.2.1 g.cue e.2.2)

/-- The segments of the lookahead window after a segment, at most `n` of them (R110). -/
def windowAfter (dir : List Cue) (vp : Nat) : Nat → Segment → List Segment
  | 0, _ => []
  | n + 1, g =>
    match following dir vp g with
    | none => []
    | some e => e.2 :: windowAfter dir vp n e.2

/-- The highest speed, in µm/s, from which a deceleration of Ap over a distance in nm reaches a speed (R111). -/
def brakeSpeed (ap : Nat) (speed dist : Int) : Int := (rootDown (speed * speed + 2 * (ap : Int) * dist).toNat : Nat)

/-- The braking bound: `dist` is the distance to the end of the first segment of the window, and the list holds the
segments after it. The last waypoint counts as a stop point (R110, R111). -/
def brakingBound (ap : Nat) : Int → List Segment → Int
  | dist, [] => brakeSpeed ap 0 dist
  | dist, g :: rest => lesser (brakeSpeed ap g.cap dist) (brakingBound ap (dist + g.len) rest)

/-! ## The step (R112, R113) -/

/-- The values of one frame's advance: segment, progress, speed, step, MARKs passed, and whether it arrived. -/
structure Travel where
  seg : Segment
  d : Int
  v : Int
  step : Int
  marks : List Nat
  arrived : Bool
deriving DecidableEq, Repr

/-- The step cut at a stop point (R113). -/
def Travel.arrive (p : Travel) : Travel :=
  { p with step := p.step - (p.d - p.seg.len), d := p.seg.len, v := 0, arrived := true }

/-- The end of the segment met as often as the progress reaches it: a carry across pass-through points, or an
arrival (R113). Each carry goes on in the same cue, so that the cue's records bound their number. -/
def settle (dir : List Cue) (vp : Nat) : Nat → Travel → Travel
  | 0, p => if p.d < p.seg.len then p else p.arrive
  | n + 1, p =>
    if p.d < p.seg.len then p
    else match following dir vp p.seg with
    | none => p.arrive
    | some e =>
      settle dir vp n { p with seg := e.2, d := p.d - p.seg.len, v := lesser p.v e.2.cap, marks := p.marks ++ e.1 }

/-- The third stage: the step taken along the path from the frame's starting state (R112, R113). -/
def travel (dir : List Cue) (vp : Nat) (p : Travel) (step : Int) : Travel :=
  settle dir vp (recordsOf dir p.seg.cue).length { p with d := p.d + step, step := step }

/-- The point at the progress of a segment, nm (R112). -/
def pointAt (g : Segment) (d : Int) : Vec3 :=
  if g.len = 0 then g.stop
  else g.start.add ((g.stop.sub g.start).map fun c => roundHalfAway (c * d) g.len)

/-! ## Governing (R114 to R116) -/

/-- What the stages before the commit leave of a frame: the travel, the leader's point, and whether governing took
effect. -/
structure PathStep where
  went : Travel
  point : Vec3
  governed : Bool

/-- The third and fourth stages, with up to `n` further passes of governing (R114 to R116). `p` is the frame's
starting state with the bounded speed, `here` the point it stands at. The answer is an error where a member's point
fails the geometric condition. -/
def governed (s : State) (fs : List (FlyerId × Vec3)) (vp : Nat) (p : Travel) (here : Vec3) :
    Nat → Bool → Int → Except (FlyerId × CheckKind) PathStep
  | n, took, step =>
    let q := travel s.dir vp p step
    let pt := pointAt q.seg q.d
    match geometryFault s (memberPoints fs pt) with
    | some e => .error e
    | none =>
      match governingLine (lineSteps s (allLengths s (memberPoints fs pt))) with
      | none =>
        .ok { went := if took then { q with v := lesser (floorDiv q.step s.t) q.v } else q, point := pt, governed := took }
      | some g =>
        match n with
        | 0 => .ok { went := { p with v := 0, step := 0 }, point := here, governed := true }
        | m + 1 => governed s fs vp p here m true (floorDiv (q.step * g.limit) g.delta)

/-! ## The commit and what follows it (R117, R120, R122) -/

/-- A run takes the travel of a frame (R117): the record position moves past the MOVE of the segment it is on. -/
def Run.travelled (p : Travel) (moved : Bool) (r : Run) : Run :=
  { r with seg := some p.seg, d := p.d, v := p.v, posRecord := if moved then p.seg.record + 1 else r.posRecord }

/-- The commit of a cue step (R106, R117, R118). -/
def commitPath (f : FlyerId) (old : Segment) (k : PathStep) (s : State) : State :=
  let s1 := commitPoints (memberPoints (concerned s f) k.point) k.governed false s
  let s2 := modRun f (Run.travelled k.went (decide (k.went.seg ≠ old))) s1
  passMarks (concernedFlyers s f) k.went.marks s2

/-- The states in which a failed separation test faults a cue flyer (R54). -/
def separationFaults : FlyerState → Bool
  | .cueRun _ | .holding | .stopping .request => true
  | .undefined | .unready | .unlocated | .parked | .releasing | .held _ | .jogging | .stopping .fault
  | .stopping .allStop | .faulted => false

/-- The SEPARATION fault of a cue flyer, after the commit (R54, R117). Where several members of a formation fail on one
frame, the first in formation order faults and the others record MEMBER_STOP (DESIGN CHOICE: log entry 35). -/
def separationFault (bad : Option (FlyerId × FlyerId)) (f : FlyerId) (s : State) : State :=
  match bad with
  | none => s
  | some e =>
    if separationFaults (s.flyer f).state then
      takeFault false .flyerStop
        { code := .separation, axis := none, station := none, detail := .number (e.2.val : Nat) } e.1 s
    else s

/-- The arrival handling by the state the flyer is in after the commit (R103, R117, R120, R122). -/
def arrivalOutcome (f : FlyerId) (s : State) : State :=
  match (s.flyer f).state with
  | .cueRun _ => handleArrival f s
  | .holding => holdOutcome f (handleArrival f s)
  | .stopping why => endStop f why s
  | .undefined | .unready | .unlocated | .parked | .releasing | .held _ | .jogging | .faulted => s

/-- The state change of a HOLDING or STOPPING flyer that has come to rest without an arrival (R120, R122). `found` is
the state the frame found: a flyer found in CUE_RUN enters STOPPING at rest and ends on the next frame (DEDUCED: log
entry 16). -/
def restOutcome (found : FlyerState) (f : FlyerId) (s : State) : State :=
  match found, (s.flyer f).state with
  | .cueRun _, _ => s
  | _, .holding => setStates (concernedFlyers s f) (.held .moving) s
  | _, .stopping why => endStop f why s
  | _, _ => s

/-- The fifth and sixth stages and what follows the commit (R117). `before` is the state before the frame. -/
def finishPath (before : State) (f : FlyerId) (old : Segment) (k : PathStep) (s : State) : State :=
  let found := (s.flyer f).state
  let bad := separationFailure before (memberPoints (concerned s f) k.point)
  let s1 := separationFault bad f (commitPath f old k s)
  if k.went.arrived then arrivalOutcome f s1 else if k.went.v = 0 then restOutcome found f s1 else s1

/-- The PATH_GEOMETRY fault: nothing of the frame is committed (R114). Where several members fail, the first in formation
order is the one named (DESIGN CHOICE: log entry 35). -/
def pathGeometryFault (e : FlyerId × CheckKind) (s : State) : State :=
  takeFault false .flyerDead
    { code := .pathGeometry, axis := none, station := none, detail := .number (e.2.code : Nat) }
    e.1 s

/-- The advance of a flyer that has a current segment. -/
def advanceOn (before : State) (f : FlyerId) (r : Run) (g : Segment) (here : Vec3) (s : State) : State :=
  let lim := limitsOf s f
  let cand := candidateSpeed (s.flyer f).state lim s.t r.v g.cap
  let v := lesser cand (brakingBound lim.ap (g.len - r.d) (windowAfter s.dir lim.vp Config.lookaheadAfter g))
  let p : Travel := { seg := g, d := r.d, v := v, step := 0, marks := [], arrived := false }
  match governed s (concerned s f) lim.vp p here 3 false (v * s.t) with
  | .error e => pathGeometryFault e s
  | .ok k => finishPath before f g k s

/-- The advance of a flyer that has no current segment, as STOP_FLYER or a fault leaves one that WAITING held before its
first MOVE: every stage is taken on a step of 0 at the point it stands at, and its stop ends (R53, R108, R114, R115, R117,
R122; DESIGN CHOICE: log entry 36). -/
def advanceStill (before : State) (f : FlyerId) (here : Vec3) (s : State) : State :=
  let pts := memberPoints (concerned s f) here
  match geometryFault s pts with
  | some e => pathGeometryFault e s
  | none =>
    let took := (governingLine (lineSteps s (allLengths s pts))).isSome
    let s1 := modRun f (fun r => { r with v := 0 }) (commitPoints pts took false s)
    restOutcome (s.flyer f).state f (separationFault (separationFailure before pts) f s1)

/-- The frame advance of a flyer on a cue path (R108, R117). -/
def advancePath (before : State) (f : FlyerId) (s : State) : State :=
  match (s.flyer f).run, (s.flyer f).point with
  | some r, some here =>
    match r.seg with
    | some g => advanceOn before f r g here s
    | none => advanceStill before f here s
  | _, _ => s

end Sys2Proof.Machine
end

