-- ==== Sys2Proof/Machine/Bytes.lean ====
section
/-! DEFINITION. Numbers as bytes, least significant byte first, and the two checksums (R200). -/

namespace Sys2Proof.Machine

/-- A number in a width of bytes, two's complement, least significant byte first (R200). -/
def bytesOf : Nat → Int → List Byte
  | 0, _ => []
  | w + 1, v => BitVec.ofInt 8 v :: bytesOf w (v / 256)

/-- The unsigned number that bytes give, least significant byte first (R200). -/
def natOf : List Byte → Nat
  | [] => 0
  | b :: rest => b.toNat + 256 * natOf rest

/-- The signed number that bytes give, two's complement (R200). -/
def intOf (bs : List Byte) : Int :=
  if 2 * natOf bs < 256 ^ bs.length then (natOf bs : Int) else (natOf bs : Int) - 256 ^ bs.length

/-- A number, or all ones where it is absent (R202). -/
def optBytes (w : Nat) : Option Int → List Byte
  | some v => bytesOf w v
  | none => List.replicate w 255

/-- The bytes of a range of a list, as many as it holds. -/
def slice (bs : List Byte) (start width : Nat) : List Byte := (bs.drop start).take width

/-- One byte of a list as a number. -/
def u8At (bs : List Byte) (i : Nat) : Nat := natOf (slice bs i 1)

/-- A u16 of a list. -/
def u16At (bs : List Byte) (i : Nat) : Nat := natOf (slice bs i 2)

/-- An i16 of a list. -/
def i16At (bs : List Byte) (i : Nat) : Int := intOf (slice bs i 2)

/-- An i32 of a list. -/
def i32At (bs : List Byte) (i : Nat) : Int := intOf (slice bs i 4)

/-- Three i16 of a list, as a vector. -/
def vec16At (bs : List Byte) (i : Nat) : Vec3 := ⟨i16At bs i, i16At bs (i + 2), i16At bs (i + 4)⟩

/-- Three i32 of a list, as a vector. -/
def vec32At (bs : List Byte) (i : Nat) : Vec3 := ⟨i32At bs i, i32At bs (i + 4), i32At bs (i + 8)⟩

/-- The components of a vector in a width each. -/
def vecBytes (w : Nat) (v : Vec3) : List Byte := bytesOf w v.x ++ bytesOf w v.y ++ bytesOf w v.z

/-- A yes-or-no value as a number (R202). -/
def yesNo (b : Bool) : Int := if b then 1 else 0

/-! ## Checksums (R200) -/

/-- One function applied eight times, once for each bit of a byte. -/
def eightTimes {α : Type} (g : α → α) (x : α) : α := g (g (g (g (g (g (g (g x)))))))

/-- One bit of CRC-16: polynomial 0x1021, most significant bit first. -/
def crc16Bit (c : BitVec 16) : BitVec 16 := if c.msb then (c <<< 1) ^^^ 0x1021#16 else c <<< 1

/-- One byte of CRC-16. -/
def crc16Byte (c : BitVec 16) (b : Byte) : BitVec 16 := eightTimes crc16Bit (c ^^^ (b.setWidth 16 <<< 8))

/-- CRC-16: initial value 0xFFFF, no final inversion. -/
def crc16 (bs : List Byte) : BitVec 16 := bs.foldl crc16Byte 0xFFFF#16

/-- One bit of CRC-32: polynomial 0xEDB88320 reflected, least significant bit first. -/
def crc32Bit (c : BitVec 32) : BitVec 32 := if c.getLsbD 0 then (c >>> 1) ^^^ 0xEDB88320#32 else c >>> 1

/-- One byte of CRC-32. -/
def crc32Byte (c : BitVec 32) (b : Byte) : BitVec 32 := eightTimes crc32Bit (c ^^^ b.setWidth 32)

/-- CRC-32: initial value and final inversion 0xFFFFFFFF. -/
def crc32 (bs : List Byte) : BitVec 32 := bs.foldl crc32Byte 0xFFFFFFFF#32 ^^^ 0xFFFFFFFF#32

/-- Bytes with their CRC-16 appended, low byte first. -/
def sealed16 (bs : List Byte) : List Byte := bs ++ bytesOf 2 (crc16 bs).toNat

/-- The last two bytes are the CRC-16 of the bytes before them. -/
def crc16Holds (bs : List Byte) : Bool :=
  decide (slice bs (bs.length - 2) 2 = bytesOf 2 (crc16 (bs.take (bs.length - 2))).toNat)

end Sys2Proof.Machine
end

