-- ==== Sys2Proof/Machine/Slots.lean ====
section
/-! DEFINITION. The slot requests WRITE_SLOTS and SWAP_SLOTS (R149, R150). -/

namespace Sys2Proof.Machine

/-- A port other than the one named whose active table holds an axis (R149, R151). -/
def otherPortOf (s : State) (p : PortId) (a : AxisId) : Option PortId :=
  allPorts.find? fun g => decide (g ≠ p) && (s.port g).active.has a

/-- The first axis of a staged table, in slot order, that another port's active table holds, with that port: the one that
a refusal names where both slots fail (R149; DESIGN CHOICE: log entry 38). -/
def stagedElsewhere (s : State) (p : PortId) (t : Slots) : Option (AxisId × PortId) :=
  t.axes.findSome? fun a => (otherPortOf s p a).map fun g => (a, g)

/-- One axis stands in both slots. -/
def Slots.doubled (t : Slots) : Bool := t.slot0.isSome && decide (t.slot0 = t.slot1)

/-- The table that two slot bytes stage, where they pass the first row of R149 after the port number. -/
def slotsOf (slot0 slot1 : Nat) : Option Slots :=
  match slotNamed slot0, slotNamed slot1 with
  | some a, some b => if Slots.doubled ⟨a, b⟩ then none else some ⟨a, b⟩
  | _, _ => none

/-- WRITE_SLOTS at the drive port (R149). -/
def writeSlotsBody (port slot0 slot1 : Nat) (s : State) : State × Reply :=
  match portNamed port, slotsOf slot0 slot1 with
  | some p, some t =>
    match stagedElsewhere s p t with
    | some e => refuse .badValue [⟨.axis, e.1.val⟩, ⟨.port, e.2.val⟩] s
    | none => if saving s then refuse .busy [] s else done (modPort p (fun x => { x with shadow := t }) s)
  | _, _ => refuse .badValue [] s

/-- SWAP_SLOTS at the drive port (R150). -/
def swapSlotsBody (port : Nat) (s : State) : State × Reply :=
  match portNamed port with
  | none => refuse .badValue [] s
  | some p => if saving s then refuse .busy [] s else done (modPort p (fun x => { x with swap := true }) s)

/-- WRITE_SLOTS (R149). -/
def execWriteSlots (q : Req) (port slot0 slot1 : Nat) (s : State) : Host.Outcome State Fault Refusal :=
  takeRequest q 0x2C (writeSlotsBody port slot0 slot1) s

/-- SWAP_SLOTS (R150). -/
def execSwapSlots (q : Req) (port : Nat) (s : State) : Host.Outcome State Fault Refusal :=
  takeRequest q 0x2D (swapSlotsBody port) s

end Sys2Proof.Machine
end

