-- ==== Sys2Proof/Machine/Ports.lean ====
section
/-! DEFINITION. What a drive port does on a motion frame: miss accounting, the swap, composing and sending the set-point
frame, and the record stage (R137 to R139, R142, R151, R152, R203). -/

namespace Sys2Proof.Machine

/-! ## Miss accounting (R142) -/

/-- The port has sent a frame since the last reset that is not answered (R137, R142). -/
def Port.unanswered (x : Port) : Bool := x.last.isSome && !x.answered

/-- The counts of a miss (R142). -/
def Port.missedOne (x : Port) : Port := { x with miss := min (x.miss + 1) 255, missed := x.missed + 1 }

/-- FEEDBACK_LOST on each axis of a port's active slots (R27, R142). -/
def feedbackLostFaults (p : PortId) (s : State) : State :=
  forEach (s.port p).active.axes (axisFault .feedbackLost (.number (p.val : Nat))) s

/-- A miss at a port: its counts, and at the rise to 3 the faults (R142). -/
def takeMiss (p : PortId) (s : State) : State :=
  let s1 := modPort p Port.missedOne s
  if (s.port p).miss = 2 then feedbackLostFaults p s1 else s1

/-- Miss accounting on a motion frame (R137 stage 1). -/
def accountMiss (p : PortId) (s : State) : State := if (s.port p).unanswered then takeMiss p s else s

/-! ## The swap (R24, R151, R152) -/

/-- Why a swap is dropped. -/
inductive DropCause where
  | engaged
  | elsewhere
deriving DecidableEq, Repr

/-- The detail of SLOT_SWAP_DROPPED (R202). -/
def DropCause.code : DropCause → Nat
  | .engaged => 1
  | .elsewhere => 2

/-- What one slot of a pending swap is dropped for: `old` the active entry, `new` the shadow's (R151). Where both cause the
drop, the active axis is named, with the cause engaged (DESIGN CHOICE: log entry 38). -/
def slotDrop (s : State) (p : PortId) (old new : Option AxisId) : Option (AxisId × DropCause) :=
  if old = new then none
  else
    let held := old.bind fun a => if (s.axis a).state = .engaged then some (a, DropCause.engaged) else none
    match held with
    | some e => some e
    | none => new.bind fun a => (otherPortOf s p a).map fun _ => (a, DropCause.elsewhere)

/-- What a pending swap is dropped for, in slot order (R151). -/
def swapDrop (s : State) (p : PortId) : Option (AxisId × DropCause) :=
  match slotDrop s p (s.port p).active.slot0 (s.port p).shadow.slot0 with
  | some e => some e
  | none => slotDrop s p (s.port p).active.slot1 (s.port p).shadow.slot1

/-- An axis that a swap places, moves or removes: state as given, feedback, fault cause, history and slack count gone
(R24, R152). -/
def remapAxis (st : AxisState) (x : Axis) : Axis :=
  { x with state := st, feedback := none, cause := none, slack := 0, current := 0, previous := 0 }

/-- The axes of a table in a slot whose entry differs from another table's (R24). -/
def placedAxes (old new : Slots) : List AxisId :=
  (if old.slot0 = new.slot0 then [] else new.slot0.toList) ++ (if old.slot1 = new.slot1 then [] else new.slot1.toList)

/-- The axes of one table that another does not hold (R24). -/
def removedAxes (old new : Slots) : List AxisId := old.axes.filter fun a => !new.has a

/-- The flyers that have a member in a list of axes. -/
def flyersWith (s : State) (as : List AxisId) : List FlyerId :=
  allFlyers.filter fun f => (membersOf s f).any fun a => as.contains a

/-- The swap applied: the active table becomes a copy of the shadow, with its effect on the axes and on the flyers at
rest (R24, R35, R151, R152). -/
def applySwap (p : PortId) (s : State) : State :=
  let old := (s.port p).active
  let new := (s.port p).shadow
  let s1 := modPort p (fun x => { x with active := x.shadow, swap := false }) s
  let s2 := forEach (removedAxes old new) (fun a => modAxis a (remapAxis .unmapped)) s1
  let s3 := forEach (placedAxes old new) (fun a => modAxis a (remapAxis .unreferenced)) s2
  forEach (flyersWith s (removedAxes old new ++ placedAxes old new)) readiness s3

/-- The swap dropped: NOTE SLOT_SWAP_DROPPED naming the port and the axis (R151). -/
def dropSwap (p : PortId) (e : AxisId × DropCause) (s : State) : State :=
  logEntry { time := s.clock, code := .slotSwapDropped, cls := .note, flyer := flyerOfAxis s e.1, axis := some e.1,
             station := none, port := some p, detail := .number (e.2.code : Nat) }
    (modPort p (fun x => { x with swap := false }) s)

/-- The swap stage (R137 stage 2). -/
def takeSwap (p : PortId) (s : State) : State :=
  if (s.port p).swap then
    match swapDrop s p with
    | some e => dropSwap p e s
    | none => applySwap p s
  else s

/-! ## Compose, send and record (R138, R139, R203) -/

/-- Enable flag and set-point counts of one slot (R138). -/
def slotOutput (s : State) : Option AxisId → Bool × Int
  | none => (false, 0)
  | some a =>
    if (s.axis a).state = .engaged then (true, (s.axis a).outgoing)
    else (false, match (s.axis a).feedback with
      | some fb => fb.counts
      | none => 0)

/-- The bytes of a set-point frame (R203). -/
def setPointFrame (seq : BitVec 8) (out0 out1 : Bool × Int) : List Byte :=
  sealed16 ([seq] ++ bytesOf 1 (yesNo out0.1) ++ bytesOf 3 out0.2 ++ bytesOf 1 (yesNo out1.1) ++ bytesOf 3 out1.2)

/-- The counts just carried enter an axis's history (R139). -/
def shiftHistory (counts : Int) (x : Axis) : Axis := { x with previous := x.current, current := counts }

/-- The histories of the axes of one slot shift (R139). -/
def recordSlot (a : Option AxisId) (out : Bool × Int) (s : State) : State :=
  match a with
  | some a => modAxis a (shiftHistory out.2) s
  | none => s

/-- A port after its send (R137 stage 4). -/
def Port.sentOne (frame : List Byte) (x : Port) : Port :=
  { x with last := some x.next, next := x.next + 1, answered := false, sent := x.sent + 1, line := frame }

/-- Compose, send and record (R137 stages 3 and 4). -/
def sendSetPoints (p : PortId) (s : State) : State :=
  let x := s.port p
  let out0 := slotOutput s x.active.slot0
  let out1 := slotOutput s x.active.slot1
  recordSlot x.active.slot1 out1
    (recordSlot x.active.slot0 out0 (modPort p (Port.sentOne (setPointFrame x.next out0 out1)) s))

/-- A drive port takes a motion frame (R137). -/
def portFrame (p : PortId) (s : State) : State := sendSetPoints p (takeSwap p (accountMiss p s))

/-! ## The six ports (R137, R151) -/

/-- A port whose stages can reach beyond its own link on this frame: a swap is pending, or a miss would be its third
(R142, R151). -/
def Port.reachesOut (x : Port) : Bool := x.swap || (x.unanswered && decide (x.miss = 2))

/-- A port put in its place by rank. -/
def insertPort (rank : PortId → Nat) (p : PortId) : List PortId → List PortId
  | [] => [p]
  | g :: rest => if rank p < rank g then p :: g :: rest else g :: insertPort rank p rest

/-- The ports in the order of a rank. -/
def portsByRank (rank : PortId → Nat) : List PortId := allPorts.foldl (fun l p => insertPort rank p l) []

/-- Every drive port takes the frame. Where the order can decide something, it is the free order of the frame
(R137, R151; log entry 6). -/
def allPortFrames (s : State) : State :=
  if allPorts.any fun p => (s.port p).reachesOut then
    forEach (portsByRank (Config.portRank s.free)) portFrame { s with free := s.free + 1 }
  else forEach allPorts portFrame s

end Sys2Proof.Machine
end

