-- ==== Sys2Proof/Machine/Frame.lean ====
section
/-! DEFINITION. The motion frame, and the counts that run out on motion frames: the brake release count, the dwell, the
jog validity and the all-stop cut-off (R4, R99, R104, R108, R127, R137, R142, R165). -/

namespace Sys2Proof.Machine

/-! ## The brake release count (R38, R99) -/

/-- The first member axis, in formation order and member order, whose brake is not reported released, with its flyer
(R38). -/
def firstBraked (s : State) : List FlyerId → Option (FlyerId × AxisId)
  | [] => none
  | f :: rest =>
    match (membersOf s f).find? fun a =>
        match (s.axis a).feedback with
        | some fb => !fb.brakeReleased
        | none => true with
    | some a => some (f, a)
    | none => firstBraked s rest

/-- BRAKE_TIMEOUT on a flyer in RELEASING and its formation (R38, R99). -/
def brakeTimeoutOn (f : FlyerId) (s : State) : State :=
  match firstBraked s (concernedFlyers s f) with
  | some e => takeFault false .flyerStop { code := .brakeTimeout, axis := some e.2, station := none, detail := .none } e.1 s
  | none => s

/-- The brake release count on a motion frame that finds the flyer in RELEASING (R99). -/
def countBrake (f : FlyerId) (s : State) : State :=
  match (s.flyer f).run with
  | none => s
  | some r =>
    let s1 := modRun f (fun x => { x with brake := x.brake - 1 }) s
    if r.brake ≤ 1 then brakeTimeoutOn f s1 else s1

/-! ## The dwell (R104) -/

/-- The dwell count on a motion frame that finds the flyer DWELLING (R104). -/
def countDwell (f : FlyerId) (s : State) : State :=
  match (s.flyer f).run with
  | none => s
  | some r =>
    let s1 := modRun f (fun x => { x with dwell := x.dwell - 1 }) s
    if r.dwell ≤ 1 then runInterpreter f s1 else s1

/-! ## The trajectory unit's share (R108) -/

/-- The motion kind of a flyer's run is JOG. -/
def jogKind (s : State) (f : FlyerId) : Bool :=
  match (s.flyer f).run with
  | some r => decide (r.kind = .jog)
  | none => false

/-- What a motion frame does to a flyer that is no follower, by the state it finds (R99, R104, R108, R127, R128). -/
def advanceFlyer (before : State) (f : FlyerId) (s : State) : State :=
  match (s.flyer f).state with
  | .releasing => countBrake f (ageJog f s)
  | .cueRun .dwelling => countDwell f s
  | .cueRun .moving | .holding => advancePath before f s
  | .stopping _ => if jogKind s f then advanceJog before f s else advancePath before f s
  | .jogging => ageJog f (advanceJog before f s)
  | .cueRun .waiting | .held _ | .undefined | .unready | .unlocated | .parked | .faulted => s

/-- The indications of a flyer that a frame does not advance are false (R30, R108). -/
def clearIndications (x : Flyer) : Flyer := { x with governed := false, atLimit := false }

/-- The trajectory unit takes the frame: every flyer that is no follower, in flyer number order (R108, R118). -/
def trajectoryFrame (s : State) : State :=
  let s0 := forEach allFlyers (fun f => modFlyer f clearIndications) s
  forEach allFlyers (fun f t => if isFollower s0 f then t else advanceFlyer s0 f t) s0

/-! ## The cut-off (R165) -/

/-- The speed of a flyer's run in mm/s, rounded down (R156). -/
def speedOf (s : State) (f : FlyerId) : Int :=
  match (s.flyer (leaderOf s f)).run with
  | some r =>
    match r.kind with
    | .path => floorDiv r.v 1000
    | .jog => floorDiv (magnitude r.jogV) 1000
  | none => 0

/-- The cut-off expiry on one flyer: logged as `speed` gives its speed at the expiry, then FAULTED, not located
(R165). -/
def cutOffFlyer (speed : FlyerId → Int) (f : FlyerId) (s : State) : State :=
  if (s.flyer f).state.isStopping then
    let c : Cause := { code := .cutoff, axis := none, station := none, detail := .number (speed f) }
    disengage f (modFlyer f (fun x => { x with state := .faulted, located := false, point := none, run := none })
      (logCause c .allStop (some f) s))
  else s

/-- The cut-off expiry (R165). -/
def cutOffExpiry (s : State) : State := forEach allFlyers (cutOffFlyer (speedOf s)) s

/-- The cut-off count runs, and runs out on the coming motion frame (R165). -/
def cutOffDue (s : State) : Bool := s.allStop.isSome && decide (s.cutCount = 1)

/-- The cut-off count lowered on a motion frame while all-stop is active (R165). -/
def lowerCutOff (s : State) : State := if s.allStop.isSome then { s with cutCount := s.cutCount - 1 } else s

/-- The cut-off expiry on the flyers it reaches before their commit, a formation as one (R165; log entry 5). -/
def earlyCutOff (k : Nat) (s : State) : State :=
  forEach (allFlyers.filter fun f => Config.cutoffFirst k (leaderOf s f)) (cutOffFlyer (speedOf s)) s

/-- The commits of a frame and its cut-off count: on the frame of the expiry either reaches a flyer first (R165; log
entry 5). The separation test of a commit on that frame passes over the flyers that the expiry has reached already: they
are not located (R53; DESIGN CHOICE: log entry 5). -/
def trajectoryAndCutOff (s : State) : State :=
  let s1 := lowerCutOff s
  if cutOffDue s then cutOffExpiry (trajectoryFrame (earlyCutOff s.free { s1 with free := s1.free + 1 }))
  else trajectoryFrame s1

/-- The whole motion frame (R108, R137; the cut-off before the ports is DEDUCED: log entry 21). -/
def motionFrame (s : State) : State := allPortFrames (trajectoryAndCutOff s)

/-! ## The meanings -/

/-- MOTION_FRAME (R137). -/
def execMotionFrame (s : State) : Host.Outcome State Fault Refusal := whileRunning s motionFrame

/-- FEEDBACK_LOST: the miss that takes the port's miss count to 3, taken by itself (R142; log entry 4). -/
def execFeedbackLost (port : PortId) (s : State) : Host.Outcome State Fault Refusal :=
  whileRunning s fun t => if (t.port port).unanswered && decide ((t.port port).miss = 2) then takeMiss port t else t

/-- BRAKE_TIMEOUT: the brake release count of a flyer in RELEASING runs out (R99; log entry 4). -/
def execBrakeTimeout (flyer : FlyerId) (s : State) : Host.Outcome State Fault Refusal :=
  whileRunning s fun t =>
    match (t.flyer flyer).state, (t.flyer flyer).run with
    | .releasing, some r => if r.brake ≤ 1 then countBrake flyer t else t
    | _, _ => t

/-- DWELL_END: the dwell count of a flyer in DWELLING reaches 0 (R104; log entry 4). -/
def execDwellEnd (flyer : FlyerId) (s : State) : Host.Outcome State Fault Refusal :=
  whileRunning s fun t =>
    match (t.flyer flyer).state, (t.flyer flyer).run with
    | .cueRun .dwelling, some r => if r.dwell ≤ 1 then countDwell flyer t else t
    | _, _ => t

/-- JOG_VALIDITY_EXPIRY: the validity count of a jog reaches 0 (R127; log entry 4). -/
def execJogValidityExpiry (flyer : FlyerId) (s : State) : Host.Outcome State Fault Refusal :=
  whileRunning s fun t =>
    match (t.flyer flyer).state, (t.flyer flyer).run with
    | .releasing, some r | .jogging, some r => if r.jogValid = 1 then ageJog flyer t else t
    | _, _ => t

/-- CUTOFF: the all-stop cut-off count reaches 0 (R165; log entry 4). -/
def execCutoff (s : State) : Host.Outcome State Fault Refusal :=
  whileRunning s fun t => if cutOffDue t then cutOffExpiry (lowerCutOff t) else t

end Sys2Proof.Machine
end

