-- ==== Sys2Proof/Machine/Responses.lean ====
section
/-! DEFINITION. A response as the bytes of its frame (R201, R202): each result's fields in the order its rule lists them
and the widths that R202 gives. What R202 leaves open is in log entry 13. -/

namespace Sys2Proof.Machine

/-! ## Small fields -/

/-- A number of one byte that may be absent. -/
def optByte (n : Option Nat) : List Byte := optBytes 1 (n.map fun v => (v : Int))

/-- A number in a width. -/
def num (w n : Nat) : List Byte := bytesOf w (n : Int)

/-- A yes-or-no byte. -/
def flag (b : Bool) : List Byte := bytesOf 1 (yesNo b)

/-- A slot table: slot 0, slot 1. -/
def slotsBytes (t : Slots) : List Byte := optByte (t.slot0.map fun a => a.val) ++ optByte (t.slot1.map fun a => a.val)

/-- A grant: owner and release-at-rest mark. -/
def grantBytes (g : Grant) : List Byte := optByte (g.owner.map stationCode) ++ flag g.mark

/-- Formation number and role. -/
def roleBytes (r : Option (FormationId × Role)) : List Byte :=
  optByte (r.map fun e => e.1.val) ++ optByte (r.map fun e => e.2.code)

/-- The detail of a log entry or of a fault cause, i32 (R202). -/
def detailBytes (d : Detail) : List Byte :=
  match d with
  | .none => optBytes 4 none
  | .number n => bytesOf 4 n
  | .member f c => bytesOf 4 (Config.memberStopDetail f.val c.code)

/-- A ring point, which may be absent. -/
def optVec (w : Nat) : Option Vec3 → List Byte
  | some v => vecBytes w v
  | none => List.replicate (3 * w) 255

/-- The components of a rig kind in a width each: a point as held, or a jog velocity (R8, R124). -/
def kindBytes (k : RigKind) (w : Nat) (v : Vec3) : List Byte := (componentsOf k).flatMap fun i => bytesOf w (component v i)

/-- A point as held in the coordinates of its kind, which may be absent (R187). -/
def pointBytes (k : RigKind) : Option Vec3 → List Byte
  | some v => kindBytes k 8 v
  | none => List.replicate (8 * (componentsOf k).length) 255

/-! ## Details of refusals and reports -/

/-- One named item. -/
def itemBytes (i : Item) : List Byte := num 1 i.kind.code ++ num 2 i.value

/-- A detail block: three items, kind 0 and value 0 where unused (R202). -/
def detailBlock (items : List Item) : List Byte := (items.flatMap itemBytes ++ List.replicate 9 0).take 9

/-- A PREFLIGHT report (R202). Where no record is concerned, byte 10 is 0; that byte 11 is 0 too, and that bytes 12 and
13 are 0 where no item is named, is a DESIGN CHOICE (R91; log entry 13). -/
def reportBytes (r : Report) : List Byte :=
  num 1 r.kind.code ++ num 1 r.place.code ++ num 2 r.move ++ num 1 r.flyer.val ++
    (match r.record with
     | some e => num 1 e.1 ++ num 1 e.2
     | none => [0, 0]) ++
    (match r.item with
     | some i => num 1 i.kind.code ++ num 1 i.value
     | none => [0, 0])

/-! ## READ_STATUS (R186) -/

/-- The CUE_RUN phase or STOPPING reason. -/
def phaseOrReason : FlyerState → Option Nat
  | .cueRun p => some p.code
  | .stopping r => some r.code
  | .undefined | .unready | .unlocated | .parked | .releasing | .holding | .held _ | .jogging | .faulted => none

/-- One flyer of READ_STATUS. The located flag of an UNDEFINED flyer, which R30 gives only while defined, is sent as 0, its
reset value, and not as absent (R46, R186; DESIGN CHOICE: log entry 13). -/
def flyerStatusBytes (f : FlyerStatus) : List Byte :=
  num 1 f.state.code ++ optByte (phaseOrReason f.state) ++ grantBytes f.grant ++ flag f.located ++ roleBytes f.formation

/-- One port of READ_STATUS. -/
def portStatusBytes (p : PortStatus) : List Byte :=
  slotsBytes p.active ++ slotsBytes p.shadow ++ flag p.swap ++ num 1 p.miss

/-- READ_STATUS. -/
def statusBytes (v : StatusView) : List Byte :=
  v.links.flatMap (fun e => num 1 e.1.code ++ flag e.2) ++ v.flyers.flatMap flyerStatusBytes ++
    flag v.allStop.isSome ++ optByte (v.allStop.map fun c => c.code.code) ++ num 2 v.cutCount ++ num 2 v.cutoff ++
    flag (!v.chainOpen) ++ flag v.alarm ++ v.ports.flatMap portStatusBytes ++ num 1 v.t ++ num 1 v.cfgT ++ num 2 v.dsep ++
    num 1 v.logMode.code ++ num 1 v.logCount ++ num 1 v.image.code ++ num 4 v.clock.toNat

/-! ## READ_FLYER (R187) -/

/-- The phase in CUE_RUN and HELD. -/
def phaseCode : FlyerState → Option Nat
  | .cueRun p | .held p => some p.code
  | .undefined | .unready | .unlocated | .parked | .releasing | .holding | .jogging | .stopping _ | .faulted => none

/-- The reason in STOPPING. -/
def reasonCode : FlyerState → Option Nat
  | .stopping r => some r.code
  | .undefined | .unready | .unlocated | .parked | .releasing | .cueRun _ | .holding | .held _ | .jogging
  | .faulted => none

/-- The four member bytes, unused ones 255 (R201). -/
def memberBytes (d : FlyerDef) : List Byte :=
  (d.members.flatMap (fun a : AxisId => num 1 a.val) ++ List.replicate 4 255).take 4

/-- Vp, Ap, Astop, drop, tolerance, volume (R201). -/
def limitBytes (d : FlyerDef) : List Byte :=
  num 2 d.vp ++ num 2 d.ap ++ num 2 d.astop ++ num 2 d.drop ++ num 2 d.tol ++ vecBytes 2 d.volume.lo ++
    vecBytes 2 d.volume.hi

/-- A definition as SET_FLYER and the image carry it: member count, members, limits (R201, R205). -/
def definitionBytes (d : FlyerDef) : List Byte := num 1 d.members.length ++ memberBytes d ++ limitBytes d

/-- A fault cause: code, axis, station, detail. That "axis or station" is a byte for the axis and then one for the station,
each 255 where the cause names none, is a DESIGN CHOICE (R187, R202; log entry 13). -/
def causeBytes (c : Option Cause) : List Byte :=
  optByte (c.map fun x => x.code.code) ++ optByte (c.bind fun x => x.axis.map fun a => a.val) ++
    optByte (c.bind fun x => x.station.map stationCode) ++
    (match c with
     | some x => detailBytes x.detail
     | none => optBytes 4 none)

/-- The PATH part of a run. Before the first segment, where R96 gives the progress d no value, d is sent as the 0 that the
run holds, beside an absent cue, record index and Dseg (R187, R202; DESIGN CHOICE: log entry 42). -/
def pathRunBytes (r : Run) : List Byte :=
  num 1 r.posCue ++ num 1 r.posRecord ++ num 1 r.stack.length ++ optByte (r.seg.map fun g => g.cue) ++
    optByte (r.seg.map fun g => g.record) ++ bytesOf 8 r.d ++ optBytes 8 (r.seg.map fun g => g.len) ++ bytesOf 4 r.v ++
    num 2 r.dwell

/-- The JOG part of a run, its velocities in the components of the rig kind (R124). -/
def jogRunBytes (k : RigKind) (r : Run) (speed : Option Nat) : List Byte :=
  kindBytes k 4 r.jogReq ++ num 2 r.jogValid ++ kindBytes k 4 r.jogV ++ optBytes 4 (speed.map fun v => (v : Int))

/-- The run of READ_FLYER. The reach set is a set (R93); that its numbers are sent in the order in which the expansion met
them is a DESIGN CHOICE (R187, R202; log entry 13); a JOG run sends no started cue and an empty reach set (DESIGN CHOICE:
log entry 42). -/
def runBytes (k : RigKind) (releasing : Bool) (speed : Option Nat) (r : Run) : List Byte :=
  num 1 r.kind.code ++ optByte (r.pending.map PendingStart.code) ++ optByte r.cue ++
    (r.reach.flatMap (num 1) ++ List.replicate 5 255).take 5 ++
    (match r.kind with
     | .path => pathRunBytes r
     | .jog => jogRunBytes k r speed) ++
    (if releasing then num 2 r.brake else optBytes 2 none)

/-- READ_FLYER: for an UNDEFINED flyer the state and the grant, and otherwise every group of R187 in its order. -/
def flyerBytes (v : FlyerView) : List Byte :=
  match v.body with
  | none => num 1 v.state.code ++ grantBytes v.grant
  | some b =>
    memberBytes b.defn ++ num 1 b.kind.code ++ limitBytes b.defn ++ optBytes 4 (b.rig.bind fun c => c.h12) ++
      optBytes 4 (b.rig.map fun c => c.ceiling) ++ num 1 v.state.code ++ optByte (phaseCode v.state) ++
      optByte (reasonCode v.state) ++ flag b.located ++ grantBytes v.grant ++ pointBytes b.kind b.point ++ optVec 4 b.ring ++
      num 1 b.mark ++ num 2 b.markCount ++ flag b.governed ++ flag b.atLimit ++ causeBytes b.cause ++
      roleBytes b.formation ++
      (match b.run with
       | some r => runBytes b.kind (decide (v.state = .releasing)) b.jogSpeed r
       | none => optByte none)

/-! ## READ_AXIS, READ_ZONE, READ_CUE, READ_LOG, READ_COUNTERS (R79, R188 to R190) -/

/-- An axis parameter set as SET_AXIS carries it (R205). -/
def paramsBytes (p : AxisParams) : List Byte :=
  vecBytes 2 p.anchor ++ num 2 p.l0 ++ num 2 p.k ++ num 2 p.lmin ++ num 2 p.lmax ++ num 2 p.vline ++ num 2 p.feLimit ++
    num 2 p.loadMax ++ num 2 p.slackMin

/-- A latest feedback. -/
def feedbackBytes (fb : Feedback) : List Byte :=
  bytesOf 4 fb.counts ++ num 2 fb.load ++ flag fb.posValid ++ flag fb.brakeReleased ++ flag fb.driveFault ++
    flag fb.driveWarning

/-- READ_AXIS. -/
def axisBytes (v : AxisView) : List Byte :=
  (match v.params with
   | some p => paramsBytes p
   | none => List.replicate 22 255) ++
    num 1 v.state.code ++ optByte (v.cause.map FaultCode.code) ++ optByte (v.flyer.map fun f => f.val) ++
    optByte (v.place.map fun e => e.1.val) ++ optByte (v.place.map fun e => e.2) ++ bytesOf 4 v.outgoing ++
    optBytes 4 (v.history.map fun e => e.1) ++ optBytes 4 (v.history.map fun e => e.2) ++ optBytes 4 v.committed ++
    (match v.feedback with
     | some fb => feedbackBytes fb
     | none => List.replicate 10 255) ++
    optBytes 8 v.measured ++ num 1 v.slack

/-- A zone record as SET_ZONE carries it. -/
def zoneBytes (z : Zone) : List Byte := flag z.enabled ++ vecBytes 2 z.box.lo ++ vecBytes 2 z.box.hi ++ num 1 z.mask.toNat

/-- A cue record in its 18 bytes (R204). -/
def recordBytes (r : CueRecord) : List Byte :=
  num 1 r.kind ++ num 1 r.flags ++ num 2 r.w2 ++ num 2 r.w4 ++ vecBytes 4 r.pos

/-- An upload context of the summary. -/
def uploadBytes (u : Option UploadView) : List Byte :=
  match u with
  | some v => num 1 v.num ++ num 1 v.total ++ num 1 v.kind.code ++ num 1 v.soFar ++ num 1 v.next
  | none => List.replicate 5 255

/-- The summary of READ_CUE. -/
def summaryBytes (v : CueSummary) : List Byte :=
  num 1 v.entries ++ num 2 v.free ++ v.present.flatMap (num 1) ++ v.uploads.flatMap uploadBytes

/-- A log entry with every field of R172. -/
def entryBytes (e : LogEntry) : List Byte :=
  num 4 e.time.toNat ++ num 1 e.code.code ++ num 1 e.cls.code ++ optByte (e.flyer.map fun f => f.val) ++
    optByte (e.axis.map fun a => a.val) ++ optByte (e.station.map stationCode) ++ detailBytes e.detail

/-- READ_COUNTERS. -/
def countersBytes (v : CountersView) : List Byte :=
  v.stations.flatMap (fun e => num 4 e.1.toNat ++ num 4 e.2.1.toNat ++ num 4 e.2.2.toNat) ++
    v.ports.flatMap (fun e => num 4 e.1.toNat ++ num 4 e.2.1.toNat ++ num 4 e.2.2.1.toNat ++ num 4 e.2.2.2.toNat)

/-! ## The frame (R201) -/

/-- The result fields of a response. -/
def ReplyBody.bytes : ReplyBody → List Byte
  | .empty => []
  | .detail items => detailBlock items
  | .report r => reportBytes r
  | .replaced b => flag b
  | .status v => statusBytes v
  | .flyer v => flyerBytes v
  | .axis v => axisBytes v
  | .zone z => zoneBytes z
  | .summary v => summaryBytes v
  | .cue kind count recs => num 1 kind.code ++ num 1 count ++ recs.flatMap recordBytes
  | .log mode count entries => num 1 mode.code ++ num 1 count ++ entries.flatMap entryBytes
  | .counters v => countersBytes v

/-- The bytes of a response frame: length, tag, request code, result code, fields, CRC-16 (R201). -/
def Response.frame (r : Response) : List Byte :=
  let fields := r.body.bytes
  sealed16 (num 2 (7 + fields.length) ++ num 1 r.tag ++ num 1 r.code ++ num 1 r.result.code ++ fields)

end Sys2Proof.Machine
end

