-- ==== Sys2Proof/Machine/Image.lean ====
section
/-! DEFINITION. The configuration image: its layout, its writing, its checks and its loading, SET_TIMING, SAVE_CONFIG
and the flash operations of a save (R194 to R198, R205). -/

namespace Sys2Proof.Machine

/-! ## Writing the image (R197, R205) -/

/-- An axis entry: present, parameter set; the unused bytes of an absent entry are 0 (log entry 25). -/
def axisEntry (p : Option AxisParams) : List Byte :=
  match p with
  | some q => num 1 1 ++ paramsBytes q
  | none => List.replicate 23 0

/-- A flyer entry: defined, then the SET_FLYER fields after the flyer number. -/
def flyerEntry (d : Option FlyerDef) : List Byte :=
  match d with
  | some x => num 1 1 ++ definitionBytes x
  | none => List.replicate 28 0

/-- One follower entry of a formation record. -/
def followerBytes (e : FlyerId × Vec3) : List Byte := num 1 e.1.val ++ vecBytes 2 e.2

/-- An unused follower entry: 255 and 0 (R200). -/
def unusedFollower : List Byte := num 1 255 ++ vecBytes 2 Vec3.zero

/-- A formation entry: used, leader, follower count, three follower entries. -/
def formationEntry (m : Option Formation) : List Byte :=
  match m with
  | some x =>
    num 1 1 ++ num 1 x.leader.val ++ num 1 x.followers.length ++
      (x.followers.flatMap followerBytes ++ unusedFollower ++ unusedFollower ++ unusedFollower).take 21
  | none => List.replicate 24 0

/-- The identity marker (R205). -/
def marker : List Byte := [0x41, 0x43, 0x36, 0x34]

/-- The bytes of the image before its CRC field (R205). -/
def imageBody (s : State) : List Byte :=
  marker ++ num 4 Config.imageBytes ++ num 1 s.cfgT ++ num 2 s.cutoff ++ num 1 s.logMode.code ++ num 2 s.dsep ++
    allAxes.flatMap (fun a => axisEntry (s.axis a).params) ++ allPorts.flatMap (fun p => slotsBytes (s.port p).active) ++
    allFlyers.flatMap (fun f => flyerEntry (s.flyer f).defn) ++
    allFormations.flatMap (fun n => formationEntry (s.formation n)) ++ allZones.flatMap (fun z => zoneBytes (s.zone z))

/-- Bytes with their CRC-32 appended (R200). -/
def sealed32 (bs : List Byte) : List Byte := bs ++ num 4 (crc32 bs).toNat

/-- The image of the configuration in force (R197). -/
def imageOf (s : State) : List Byte := sealed32 (imageBody s)

/-! ## Reading the image (R194, R205) -/

/-- The image is valid: marker, length field, CRC-32 (R194). A shorter area lacks bytes that the CRC needs. -/
def imageValid (bs : List Byte) : Bool :=
  decide (Config.imageBytes ≤ bs.length) && decide (slice bs 0 4 = marker) &&
    decide (natOf (slice bs 4 4) = Config.imageBytes) &&
    decide (slice bs Config.imageBody 4 = num 4 (crc32 (bs.take Config.imageBody)).toNat)

/-- Offset of an axis entry. -/
def axisOffset (a : AxisId) : Nat := 14 + 23 * a.val

/-- Offset of a port's slot table. -/
def portOffset (p : PortId) : Nat := 290 + 2 * p.val

/-- Offset of a flyer entry. -/
def flyerOffset (f : FlyerId) : Nat := 302 + 28 * f.val

/-- Offset of a formation entry. -/
def formationOffset (n : FormationId) : Nat := 414 + 24 * n.val

/-- Offset of a zone entry. -/
def zoneOffset (z : ZoneId) : Nat := 462 + 14 * z.val

/-- The parameter set at an offset. -/
def paramsAt (bs : List Byte) (i : Nat) : AxisParams :=
  { anchor := vec16At bs i, l0 := u16At bs (i + 6), k := u16At bs (i + 8), lmin := u16At bs (i + 10),
    lmax := u16At bs (i + 12), vline := u16At bs (i + 14), feLimit := u16At bs (i + 16), loadMax := u16At bs (i + 18),
    slackMin := u16At bs (i + 20) }

/-- The SET_FLYER fields at an offset. -/
def flyerFieldsAt (bs : List Byte) (i : Nat) : FlyerFields :=
  { count := u8At bs i, members := [u8At bs (i + 1), u8At bs (i + 2), u8At bs (i + 3), u8At bs (i + 4)],
    vp := u16At bs (i + 5), ap := u16At bs (i + 7), astop := u16At bs (i + 9), drop := u16At bs (i + 11),
    tol := u16At bs (i + 13), vmin := vec16At bs (i + 15), vmax := vec16At bs (i + 21) }

/-- One follower entry at an offset. -/
def followerAt (bs : List Byte) (i : Nat) : Nat × Vec3 := (u8At bs i, vec16At bs (i + 1))

/-- The SET_FORMATION fields at an offset. -/
def formationFieldsAt (bs : List Byte) (i : Nat) : FormationFields :=
  { leader := u8At bs i, count := u8At bs (i + 1),
    followers := [followerAt bs (i + 2), followerAt bs (i + 9), followerAt bs (i + 16)] }

/-- The SET_ZONE fields at an offset. -/
def zoneFieldsAt (bs : List Byte) (i : Nat) : ZoneFields :=
  { enabled := u8At bs i, vmin := vec16At bs (i + 1), vmax := vec16At bs (i + 7), mask := u8At bs (i + 13) }

/-! ## Loading item by item (R195) -/

/-- NOTE IMAGE_ITEM_REPLACED, the item named by its offset (R195, R202). -/
def replacedAt (offset : Nat) (s : State) : State :=
  logCause { code := .imageItemReplaced, axis := none, station := none, detail := .number (offset : Nat) } .note none s

/-- An item taken where it passes, and otherwise logged as replaced, its default standing already in the state. -/
def takeItem {α : Type} (offset : Nat) (item : Option α) (put : α → State → State) (s : State) : State :=
  match item with
  | some x => put x s
  | none => replacedAt offset s

/-- A value that passes its test. -/
def passing {α : Type} (test : α → Bool) (x : α) : Option α := if test x then some x else none

/-- An entry with a leading yes-or-no byte: absent where it is 0, and read by `read` where it is 1 (R200, R205). -/
def entryAt {α : Type} (bs : List Byte) (i : Nat) (read : Option α) : Option (Option α) :=
  if u8At bs i = 0 then some none else if u8At bs i = 1 then read.map some else none

/-- Steps 1 to 4 of R195: log mode, T, cut-off, Dsep. -/
def loadSettings (bs : List Byte) (s : State) : State :=
  let s1 := takeItem 11 (logModeNamed (u8At bs 11)) (fun m t => { t with logMode := m }) s
  let s2 := takeItem 8 (passing periodInRange (u8At bs 8)) (fun n t => { t with t := n, cfgT := n }) s1
  let s3 := takeItem 9 (passing (fun n => cutoffInRange n) (u16At bs 9)) (fun n t => { t with cutoff := n }) s2
  takeItem 12 (passing (fun n => separationInRange n) (u16At bs 12)) (fun n t => { t with dsep := n }) s3

/-- Step 5 of R195 for one axis. -/
def loadAxis (bs : List Byte) (a : AxisId) (s : State) : State :=
  let i := axisOffset a
  takeItem i (entryAt bs i (passing paramsInRange (paramsAt bs (i + 1))))
    (fun p => modAxis a fun x => { x with params := p }) s

/-- The slot table at an offset, where it passes step 6 of R195 against the ports taken before. -/
def slotsAt (bs : List Byte) (p : PortId) (s : State) : Option Slots :=
  match slotsOf (u8At bs (portOffset p)) (u8At bs (portOffset p + 1)) with
  | some t => if (stagedElsewhere s p t).isSome then none else some t
  | none => none

/-- Step 6 of R195 for one port. -/
def loadSlots (bs : List Byte) (p : PortId) (s : State) : State :=
  takeItem (portOffset p) (slotsAt bs p s) (fun t => modPort p fun x => { x with active := t }) s

/-- A flyer's definition at load (R32, R46). -/
def putDefinition (f : FlyerId) (d : FlyerDef) (s : State) : State :=
  s.setFlyer f { Flyer.initial with
    defn := some d, rig := some (rigConstsOf (anchorsUnder (paramsOf s) d) d.drop), state := .unready }

/-- Step 7 of R195 for one flyer. -/
def loadFlyer (bs : List Byte) (f : FlyerId) (s : State) : State :=
  let i := flyerOffset f
  takeItem i (entryAt bs i ((flyerDefOf (flyerFieldsAt bs (i + 1))).bind (passing (definitionUsable s f))))
    (fun d t => match d with
      | some x => putDefinition f x t
      | none => t) s

/-- Step 8 of R195 for one formation. -/
def loadFormation (bs : List Byte) (n : FormationId) (s : State) : State :=
  let i := formationOffset n
  takeItem i (entryAt bs i ((formationOf (formationFieldsAt bs (i + 1))).bind (passing (formationUsable s n))))
    (fun m t => t.setFormation n m) s

/-- Step 9 of R195 for one zone. -/
def loadZone (bs : List Byte) (z : ZoneId) (s : State) : State :=
  takeItem (zoneOffset z) (zoneOf (zoneFieldsAt bs (zoneOffset z))) (fun x t => t.setZone z x) s

/-- The items of a valid image taken one by one onto a state that holds every default (R195). -/
def loadItems (bs : List Byte) (s : State) : State :=
  forEach allZones (loadZone bs) (forEach allFormations (loadFormation bs) (forEach allFlyers (loadFlyer bs)
    (forEach allPorts (loadSlots bs) (forEach allAxes (loadAxis bs) (loadSettings bs s)))))

/-- The image of the flash, where the flash answers and the image is valid (R194). -/
def readImage (answers : Bool) (s : State) : Option (List Byte) :=
  match s.flash with
  | .whole bs => if answers && imageValid bs then some bs else none
  | .blank | .body _ => none

/-- The power-on start-up's loading of the image onto a state that holds every default (R194, R195). -/
def loadImage (answers : Bool) (s : State) : State :=
  match readImage answers s with
  | some bs => loadItems bs s
  | none => logCause { code := .imageDefaults, axis := none, station := none, detail := .none } .note none s

/-! ## SET_TIMING and SAVE_CONFIG (R196, R197) -/

/-- SET_TIMING at the image block (R196). -/
def setTimingBody (period cutoff : Nat) (s : State) : State × Reply :=
  if (periodInRange period && cutoffInRange cutoff) = false then refuse .badValue [] s
  else if saving s then refuse .busy [] s
  else done { s with cfgT := period, cutoff := cutoff }

/-- SAVE_CONFIG at the image block (R197). The erase of the first operation begins, and the area holds no valid image
from then on (R199). -/
def saveConfigBody (s : State) : State × Reply :=
  if saving s then refuse .busy [] s
  else match allFlyers.find? fun f => (s.flyer f).state.inRun with
  | some f => refuse .busy [⟨.flyer, f.val⟩] s
  | none =>
    ({ s with image := .saving, saveStep := 1, saveData := imageOf s, flash := .blank }, ⟨.accepted, .empty⟩)

/-! ## The flash operations (R198) -/

/-- A save ends SAVE_FAILED, logged with its detail (R198, R202). -/
def saveFails (detail : Nat) (s : State) : State :=
  logCause { code := .saveFailed, axis := none, station := none, detail := .number (detail : Nat) } .note none
    { s with image := .saveFailed, saveStep := 0 }

/-- The end of one flash operation of a save; `data` is what the read-back returned (R198). -/
def flashDone (data : List Byte) (s : State) : State :=
  match s.saveStep with
  | 1 => { s with saveStep := 2 }
  | 2 => { s with saveStep := 3, flash := .body (s.saveData.take Config.imageBody) }
  | 3 => { s with saveStep := 4, flash := .whole s.saveData }
  | 4 =>
    let s1 := { s with flash := .whole data }
    if data = s.saveData then { s1 with image := .saved, saveStep := 0 } else saveFails 2 s1
  | _ => s

/-- The flash stays busy for more than 500 ms in one operation of a save (R198). A save that fails in its third or
fourth operation leaves what no rule states (log entry 11). -/
def flashBusy (s : State) : State :=
  match s.saveStep with
  | 0 => s
  | 1 | 2 => saveFails 1 s
  | _ => saveFails 1 { s with flash := .whole (Config.flashResidue s.free), free := s.free + 1 }

/-! ## The meanings -/

/-- SET_TIMING (R196). -/
def execSetTiming (q : Req) (period cutoff : Nat) (s : State) : Host.Outcome State Fault Refusal :=
  takeRequest q 0x57 (setTimingBody period cutoff) s

/-- SAVE_CONFIG (R197). -/
def execSaveConfig (q : Req) (s : State) : Host.Outcome State Fault Refusal := takeRequest q 0x60 saveConfigBody s

/-- FLASH_OPERATION_DONE (R198). -/
def execFlashOperationDone (data : List Byte) (s : State) : Host.Outcome State Fault Refusal :=
  whileRunning s (flashDone data)

/-- SAVE_BUSY_TIMEOUT (R198). -/
def execSaveBusyTimeout (s : State) : Host.Outcome State Fault Refusal := whileRunning s flashBusy

end Sys2Proof.Machine
end

