-- ==== Sys2Proof/Machine/Frames.lean ====
section
/-! DEFINITION. The frames that arrive, as bytes: the command that a station frame and a drive frame are (R176, R177,
R200, R201, R203, R204). The queue of the model holds commands; these readings say which command a burst of bytes on a
link stands for. -/

namespace Sys2Proof.Machine

/-- A cue record from its 18 bytes (R204). -/
def recordAtBytes (bs : List Byte) (i : Nat) : CueRecord :=
  { kind := u8At bs i, flags := u8At bs (i + 1), w2 := u16At bs (i + 2), w4 := u16At bs (i + 4), pos := vec32At bs (i + 6) }

/-- The field length that a request code selects; CUE_SEGMENT takes it from byte 10 of the frame (R201). -/
def fieldLength (bs : List Byte) (code : Nat) : Nat :=
  match code with
  | 0x02 | 0x03 | 0x04 | 0x06 | 0x10 | 0x11 | 0x22 | 0x24 | 0x2D | 0x31 | 0x41 | 0x42 | 0x43 | 0x44 | 0x53 | 0x54
  | 0x55 => 1
  | 0x05 | 0x29 | 0x40 => 2
  | 0x2C | 0x52 | 0x57 => 3
  | 0x20 => 23
  | 0x21 => 28
  | 0x23 => 24
  | 0x25 => 13
  | 0x28 => 15
  | 0x30 => 6 + 18 * u8At bs 10
  | 0x45 => 7
  | _ => 0

/-- The request that a valid frame carries, its fields from byte 5 (R201). -/
def requestOf (bs : List Byte) (q : Req) (code : Nat) : Instr :=
  let b (i : Nat) : Nat := u8At bs (5 + i)
  match code with
  | 0x01 => .readStatus q
  | 0x02 => .readFlyer q (b 0)
  | 0x03 => .readAxis q (b 0)
  | 0x04 => .readZone q (b 0)
  | 0x05 => .readCue q (b 0) (b 1)
  | 0x06 => .readLog q (b 0)
  | 0x07 => .readCounters q
  | 0x10 => .claimFlyer q (b 0)
  | 0x11 => .releaseFlyer q (b 0)
  | 0x20 => .setAxis q (b 0) (paramsAt bs 6)
  | 0x21 => .setFlyer q (b 0) (flyerFieldsAt bs 6)
  | 0x22 => .clearFlyer q (b 0)
  | 0x23 => .setFormation q (b 0) (formationFieldsAt bs 6)
  | 0x24 => .clearFormation q (b 0)
  | 0x25 => .locate q (b 0) (vec32At bs 6)
  | 0x28 => .setZone q (b 0) (zoneFieldsAt bs 6)
  | 0x29 => .setSeparation q (u16At bs 5)
  | 0x2C => .writeSlots q (b 0) (b 1) (b 2)
  | 0x2D => .swapSlots q (b 0)
  | 0x30 =>
    .cueSegment q
      { num := b 0, total := b 1, kind := b 2, first := b 3 % 2 == 1, last := b 3 / 2 % 2 == 1, index := b 4,
        recs := (List.range (b 5)).map fun i => recordAtBytes bs (11 + 18 * i) }
  | 0x31 => .deleteCue q (b 0)
  | 0x40 => .startCue q (b 0) (b 1)
  | 0x41 => .hold q (b 0)
  | 0x42 => .resume q (b 0)
  | 0x43 => .go q (b 0)
  | 0x44 => .stopFlyer q (b 0)
  | 0x45 => .jog q (b 0) (vec16At bs 6)
  | 0x50 => .stopAll q
  | 0x51 => .releaseAllStop q
  | 0x52 => .raiseAlarm q (b 0) (b 1) (b 2)
  | 0x53 => .clearFault q (b 0)
  | 0x54 => .clearAxis q (b 0)
  | 0x55 => .setLogMode q (b 0)
  | 0x56 => .clearLog q
  | 0x57 => .setTiming q (b 0) (u16At bs 6)
  | 0x60 => .saveConfig q
  | _ => .unknownRequest q code

/-- A station frame is valid (R176, R201). -/
def stationFrameValid (bs : List Byte) : Bool :=
  decide (7 ≤ bs.length) && decide (bs.length ≤ 157) && decide (u16At bs 0 = bs.length) && crc16Holds bs

/-- The command that a burst of bytes at a station port is, with `queued` responses queued there (R176, R177). -/
def stationCommand (st : Station) (queued : Nat) (bs : List Byte) : Instr :=
  if stationFrameValid bs = false then .stationFrameDiscarded st
  else
    let enable := u8At bs 4 % 2 == 1
    if Config.queuePlaces ≤ queued then .responseQueueFull st enable
    else
      let code := u8At bs 3
      requestOf bs { st := st, tag := u8At bs 2, enable := enable, fits := bs.length == 7 + fieldLength bs code } code

/-- One slot of a feedback frame (R203). -/
def feedbackAt (bs : List Byte) (i : Nat) : Feedback :=
  let flags := u8At bs (i + 5)
  { counts := intOf (slice bs i 3), load := u16At bs (i + 3), posValid := flags % 2 == 1,
    brakeReleased := flags / 2 % 2 == 1, driveFault := flags / 4 % 2 == 1, driveWarning := flags / 8 % 2 == 1 }

/-- The command that a burst of bytes at a drive port is (R140, R203). -/
def driveCommand (p : PortId) (bs : List Byte) : Instr :=
  if decide (bs.length = 15) && crc16Holds bs then .feedbackFrame p (u8At bs 0) (feedbackAt bs 1) (feedbackAt bs 7)
  else .feedbackDiscarded p

end Sys2Proof.Machine
end

