-- ==== Sys2Proof/Machine/Grants.lean ====
section
/-! DEFINITION. The grant table's requests (R183, R184). -/

namespace Sys2Proof.Machine

/-- Every flyer of a list takes a grant table entry. -/
def setGrants (fs : List FlyerId) (g : Grant) (s : State) : State := forEach fs (fun f t => t.setGrant f g) s

/-- CLAIM_FLYER at the grant table (R183). -/
def claimBody (q : Req) (flyer : Nat) (s : State) : State × Reply :=
  match flyerNamed flyer with
  | none => refuse .badValue [] s
  | some f =>
    let fs := concernedFlyers s f
    if fs.all fun g => editGrant q g s then done (setGrants fs { owner := some q.st, mark := false } s)
    else refuse .owned [] s

/-- The states in which a grant may be given up (R184); an UNDEFINED flyer is released too (section 10.3). -/
def releasable : FlyerState → Option ResultCode
  | .undefined | .unready | .unlocated | .parked | .held _ | .faulted => none
  | .releasing | .cueRun _ | .holding | .jogging | .stopping _ => some .busy

/-- RELEASE_FLYER at the grant table (R184). -/
def releaseBody (q : Req) (flyer : Nat) (s : State) : State × Reply :=
  match flyerNamed flyer with
  | none => refuse .badValue [] s
  | some f =>
    if motionGrant q f s = false then refuse .notOwner [] s
    else match firstRefused releasable s (concernedFlyers s f) with
    | some e => refuse e.2 [⟨.flyer, e.1.val⟩] s
    | none => done (setGrants (concernedFlyers s f) Grant.initial s)

/-- CLAIM_FLYER (R183). -/
def execClaimFlyer (q : Req) (flyer : Nat) (s : State) : Host.Outcome State Fault Refusal :=
  takeRequest q 0x10 (claimBody q flyer) s

/-- RELEASE_FLYER (R184). -/
def execReleaseFlyer (q : Req) (flyer : Nat) (s : State) : Host.Outcome State Fault Refusal :=
  takeRequest q 0x11 (releaseBody q flyer) s

end Sys2Proof.Machine
end

