-- ==== Sys2Proof/Machine/Cues.lean ====
section
/-! DEFINITION. The cue store's requests CUE_SEGMENT and DELETE_CUE, uploads, completion and rewind (R65 to R78). -/

namespace Sys2Proof.Machine

/-- A station's upload context becomes what is given (R66, R75). -/
def setUpload (st : Station) (u : Option Upload) (s : State) : State := modStation st (fun p => { p with upload := u }) s

/-- A rewind: the station's open upload is discarded (R75). -/
def rewind (st : Station) (s : State) : State := setUpload st none s

/-- A refused CUE_SEGMENT rewinds the sending station's upload (R67). -/
def refuseSegment (st : Station) (r : ResultCode) (items : List Item) (s : State) : State × Reply :=
  refuse r items (rewind st s)

/-- The index of the first record of a list that fails a test. -/
def firstFailing {α : Type} (ok : α → Bool) : Nat → List α → Option Nat
  | _, [] => none
  | i, x :: rest => if ok x then firstFailing ok (i + 1) rest else some i

/-! ## Balance (R72) -/

/-- The scan of R72: the indices of the open REPEATs, latest first. The answer is the record named, where the cue does
not balance. -/
def unbalanced : Nat → List Nat → List CueRecord → Option Nat
  | _, open_, [] => open_.getLast?
  | i, open_, r :: rest =>
    match CueRecord.view r with
    | some (.rep _) => unbalanced (i + 1) (i :: open_) rest
    | some .endRep =>
      match open_ with
      | [] => some i
      | _ :: older => unbalanced (i + 1) older rest
    | _ => unbalanced (i + 1) open_ rest

/-! ## Completion (R72 to R74) -/

/-- A cue installed in a directory kept in order of cue number, in place of any entry with its number (R64, R74). -/
def installCue (c : Cue) : List Cue → List Cue
  | [] => [c]
  | d :: rest =>
    if c.num < d.num then c :: d :: rest
    else if d.num = c.num then c :: rest
    else d :: installCue c rest

/-- The completion checks on a whole upload, and its install (R72, R73, R74). -/
def completeUpload (st : Station) (u : Upload) (s : State) : State × Reply :=
  if u.recs.length ≠ u.total then
    refuseSegment st .uploadMismatch [⟨.recordsSoFar, u.recs.length⟩, ⟨.recordTotal, u.total⟩] s
  else match unbalanced 0 [] u.recs with
  | some i => refuseSegment st .badValue [⟨.recordIndex, i⟩] s
  | none =>
    let replaced := (cueOf s.dir u.num).isSome
    if replaced = false ∧ Config.directoryPlaces ≤ s.dir.length then
      refuseSegment st .storeFull [⟨.directory, 0⟩] s
    else if inReach s u.num then refuseSegment st .inUse [⟨.cue, u.num⟩] s
    else
      let s1 := { s with dir := installCue { num := u.num, kind := u.kind, recs := u.recs } s.dir }
      (setUpload st none s1, ⟨.done, .replaced replaced⟩)

/-! ## Taking a segment (R67 to R71) -/

/-- The record checks and the pool check, and the segment taken, for an upload that the segment continues or opens
(R70, R71). -/
def takeSegment (st : Station) (u : Upload) (seg : SegmentFields) (s : State) : State × Reply :=
  match firstFailing (recordInRange u.kind) u.recs.length seg.recs with
  | some i => refuseSegment st .badValue [⟨.recordIndex, i⟩] s
  | none =>
    if poolFree s < seg.recs.length then refuseSegment st .storeFull [⟨.poolFree, poolFree s⟩] s
    else
      let v := { u with next := u.next + 1, recs := u.recs ++ seg.recs }
      let s1 := setUpload st (some v) s
      if seg.last then completeUpload st v s1 else (s1, ⟨.accepted, .empty⟩)

/-- A segment with FIRST set, past the form checks (R68): any open context is discarded first. -/
def firstSegment (st : Station) (kind : RigKind) (seg : SegmentFields) (s : State) : State × Reply :=
  let s1 := rewind st s
  if seg.index ≠ 0 then refuseSegment st .uploadOrder [⟨.expectedIndex, 0⟩] s1
  else if seg.total < seg.recs.length then refuseSegment st .uploadMismatch [] s1
  else takeSegment st { num := seg.num, total := seg.total, kind := kind, next := 0, recs := [] } seg s1

/-- A segment with FIRST clear, past the form checks (R68). -/
def laterSegment (st : Station) (kind : RigKind) (seg : SegmentFields) (s : State) : State × Reply :=
  match (s.station st).upload with
  | none => refuseSegment st .uploadOrder [] s
  | some u =>
    if u.num ≠ seg.num ∨ u.total ≠ seg.total ∨ u.kind ≠ kind then refuseSegment st .uploadMismatch [] s
    else if seg.index ≠ u.next then refuseSegment st .uploadOrder [⟨.expectedIndex, u.next⟩] s
    else if u.total < u.recs.length + seg.recs.length then refuseSegment st .uploadMismatch [] s
    else takeSegment st u seg s

/-- CUE_SEGMENT at the cue store (R67, R68). -/
def cueSegmentBody (st : Station) (seg : SegmentFields) (s : State) : State × Reply :=
  match rigKindNamed seg.kind with
  | none => refuseSegment st .badValue [] s
  | some kind =>
    if (within 1 200 seg.num && within 1 250 seg.total && within 0 249 seg.index && within 1 8 seg.recs.length) = false
    then refuseSegment st .badValue [] s
    else if seg.first then firstSegment st kind seg s
    else laterSegment st kind seg s

/-- DELETE_CUE at the cue store (R78). -/
def deleteCueBody (cue : Nat) (s : State) : State × Reply :=
  if within 1 200 cue = false then refuse .badValue [] s
  else match cueOf s.dir cue with
  | none => refuse .noCue [] s
  | some _ =>
    if inReach s cue then refuse .inUse [] s
    else done { s with dir := s.dir.filter fun c => c.num != cue }

/-- CUE_SEGMENT (R67). A frame of the wrong length is a refused CUE_SEGMENT too, and rewinds (R67, R177; log entry
14). -/
def execCueSegment (q : Req) (seg : SegmentFields) (s : State) : Host.Outcome State Fault Refusal :=
  whileRunning s fun t =>
    serve q 0x30 (refuseSegment q.st .badFrame []) (cueSegmentBody q.st seg) (arrive q.st q.enable t)

/-- DELETE_CUE (R78). -/
def execDeleteCue (q : Req) (cue : Nat) (s : State) : Host.Outcome State Fault Refusal :=
  takeRequest q 0x31 (deleteCueBody cue) s

end Sys2Proof.Machine
end

