-- ==== Sys2Proof/Machine/Links.lean ====
section
/-! DEFINITION. The events of the station links: frames that are discarded, unknown or find the queue full, responses
sent, the loss of a link, and the show clock with the silence timers it counts (R175 to R179, R185, R190, R193). -/

namespace Sys2Proof.Machine

/-- A discarded station frame (R176, R190). -/
def discardFrame (st : Station) (s : State) : State := modStation st (fun p => { p with discarded := p.discarded + 1 }) s

/-- The head of a response queue leaves it, its frame on the link (R177). -/
def sendResponse (st : Station) (s : State) : State :=
  modStation st (fun p =>
    match p.queue with
    | [] => p
    | r :: rest => { p with queue := rest, line := Response.frame r }) s

/-! ## Link loss (R179, R185) -/

/-- The station's grants weighed at the loss of its link: at rest for grants the owner becomes none, and otherwise the
release-at-rest mark is set (R185). -/
def weighGrant (st : Station) (f : FlyerId) (s : State) : State :=
  if (s.grant f).owner = some st then
    if allRestForGrants s f then s.setGrant f Grant.initial else s.setGrant f { owner := some st, mark := true }
  else s

/-- The expiry of a silence timer on a port in UP (R179). -/
def loseLink (st : Station) (s : State) : State :=
  let s1 := enableRelease st (modStation st (fun p => { p with link := .lost, enable := false, silence := none }) s)
  let s2 := logCause { code := .linkLost, axis := none, station := some st, detail := .none } .note none s1
  let s3 := modStation st (fun p => { p with upload := none, queue := [] }) s2
  forEach allFlyers (weighGrant st) s3

/-! ## The show clock (R175, R193) -/

/-- One ms of a silence timer. A timer that stands at 0 has an expiry still to be taken, and it is taken first (log
entry 7). -/
def ageTimer (st : Station) (s : State) : State :=
  match (s.station st).silence with
  | none => s
  | some 0 => loseLink st s
  | some (n + 1) => modStation st (fun p => { p with silence := some n }) s

/-- One ms of real time (R193). Where the timers of both stations stand expired, Station A's loss, with its LINK_LOST
entry, comes before Station B's (R179; DESIGN CHOICE: log entry 41). -/
def clockTick (s : State) : State :=
  let s1 := ageTimer .b (ageTimer .a s)
  { s1 with clock := s1.clock + 1 }

/-! ## The meanings -/

/-- UNKNOWN_REQUEST (R177): answered UNKNOWN, whatever the frame's length. -/
def execUnknownRequest (q : Req) (code : Nat) (s : State) : Host.Outcome State Fault Refusal :=
  whileRunning s fun t => serve q code (refuse .unknown []) (refuse .unknown []) (arrive q.st q.enable t)

/-- STATION_FRAME_DISCARDED (R176). -/
def execStationFrameDiscarded (st : Station) (s : State) : Host.Outcome State Fault Refusal :=
  whileRunning s (discardFrame st)

/-- RESPONSE_QUEUE_FULL (R176): with fewer than four responses queued there is no such event. -/
def execResponseQueueFull (st : Station) (enable : Bool) (s : State) : Host.Outcome State Fault Refusal :=
  whileRunning s fun t =>
    if Config.queuePlaces ≤ (t.station st).queue.length then discardFrame st (arrive st enable t) else t

/-- RESPONSE_SENT (R177). -/
def execResponseSent (st : Station) (s : State) : Host.Outcome State Fault Refusal := whileRunning s (sendResponse st)

/-- SILENCE_TIMER_EXPIRY (R179): the timer runs only on a port in UP (R175). -/
def execSilenceTimerExpiry (st : Station) (s : State) : Host.Outcome State Fault Refusal :=
  whileRunning s fun t => if (t.station st).link = .up then loseLink st t else t

/-- SHOW_CLOCK_TICK (R193). -/
def execShowClockTick (s : State) : Host.Outcome State Fault Refusal := whileRunning s clockTick

end Sys2Proof.Machine
end

