-- ==== Sys2Proof/Machine/Stops.lean ====
section
/-! DEFINITION. The stop and fault unit's requests and the stop chain: STOP_ALL, RELEASE_ALL_STOP, RAISE_ALARM,
CLEAR_FAULT, CLEAR_AXIS, SET_LOG_MODE, CLEAR_LOG, ESTOP_CHAIN and STOP_CHAIN_CLOSED (R41, R162, R166 to R168, R170,
R171, R173). -/

namespace Sys2Proof.Machine

/-! ## All-stop (R162, R166, R167) -/

/-- The source of a STOP_ALL (R162). -/
def stationStop (st : Station) : Cause := { code := .stationStop, axis := none, station := some st, detail := .none }

/-- The source of an open stop chain (R162). -/
def chainStop : Cause := { code := .estopChain, axis := none, station := none, detail := .none }

/-- RELEASE_ALL_STOP at the stop and fault unit (R166). -/
def releaseAllStopBody (s : State) : State × Reply :=
  if s.allStop = none then done s
  else if allFlyers.any fun f => (s.flyer f).state.isStopping then refuse .busy [] s
  else if s.chainOpen then refuse .allStop [] s
  else done { s with allStop := none, cutCount := 0 }

/-! ## Station alarms (R168) -/

/-- The fault of a station alarm (R168). -/
def stationAlarm (st : Station) (number : Nat) : Cause :=
  { code := .stationAlarm, axis := none, station := some st, detail := .number (number : Nat) }

/-- RAISE_ALARM at the stop and fault unit (R168): class 0 NOTE, 1 FLYER_STOP, 3 ALL_STOP (R202). -/
def raiseAlarmBody (st : Station) (number cls flyer : Nat) (s : State) : State × Reply :=
  let c := stationAlarm st number
  if within 1 99 number = false then refuse .badValue [] s
  else if cls = 0 then done (logCause c .note none s)
  else if cls = 1 then
    match flyerNamed flyer with
    | none => refuse .badValue [] s
    | some f =>
      if (s.flyer f).state = .undefined then refuse .notReady [] s else done (takeFault false .flyerStop c f s)
  else if cls = 3 then done (raiseAllStop c s)
  else refuse .badValue [] s

/-! ## Clearing (R29, R41, R170, R171) -/

/-- An axis cleared: READY, without a fault cause (R29). -/
def clearedAxis (x : Axis) : Axis :=
  if x.state = .faulted then { x with state := .ready, cause := none, slack := 0 } else x

/-- The states in which CLEAR_FAULT is taken (R42, R170). -/
def clearable : FlyerState → Option ResultCode
  | .faulted | .unready => none
  | .undefined | .unlocated | .parked | .releasing | .cueRun _ | .holding | .held _ | .jogging | .stopping _ =>
    some .busy

/-- The first FAULTED member axis, in formation order and member order, whose condition is not gone (R29, R170). -/
def firstUncleared (s : State) (fs : List FlyerId) : Option AxisId :=
  (fs.flatMap (membersOf s)).find? fun a => decide ((s.axis a).state = .faulted) && !faultGone s a

/-- A flyer leaves FAULTED by its located flag, with its fault cause absent (R41). -/
def leaveFaulted (x : Flyer) : Flyer :=
  { x with state := if x.located then .parked else .unlocated, cause := none, frozen := false,
           point := if x.located then x.point else none }

/-- CLEAR_FAULT on one flyer whose axes are cleared: out of FAULTED as R41 states, then the readiness rule (R170). -/
def clearFlyerFault (f : FlyerId) (s : State) : State :=
  if (s.flyer f).state = .faulted then readiness f (disengage f (modFlyer f leaveFaulted s)) else readiness f s

/-- CLEAR_FAULT past its checks (R170). -/
def clearFaults (fs : List FlyerId) (s : State) : State :=
  forEach fs clearFlyerFault (forEach (fs.flatMap (membersOf s)) (fun a => modAxis a clearedAxis) s)

/-- CLEAR_FAULT at the stop and fault unit (R170). -/
def clearFaultBody (q : Req) (flyer : Nat) (s : State) : State × Reply :=
  match flyerNamed flyer with
  | none => refuse .badValue [] s
  | some f =>
    if (s.flyer f).state = .undefined then refuse .notReady [] s
    else if motionGrant q f s = false then refuse .notOwner [] s
    else if s.allStop.isSome then refuse .allStop [] s
    else if isFollower s f then refuse .busy [] s
    else match firstRefused clearable s (concernedFlyers s f) with
    | some e => refuse e.2 [⟨.flyer, e.1.val⟩] s
    | none =>
      match firstUncleared s (concernedFlyers s f) with
      | some a => refuse .notReady [⟨.axis, a.val⟩] s
      | none => done (clearFaults (concernedFlyers s f) s)

/-- CLEAR_AXIS at the stop and fault unit (R171). -/
def clearAxisBody (axis : Nat) (s : State) : State × Reply :=
  match axisNamed axis with
  | none => refuse .badValue [] s
  | some a =>
    if (flyerOfAxis s a).isSome then refuse .busy [] s
    else if s.allStop.isSome then refuse .allStop [] s
    else if (s.axis a).state ≠ .faulted then done s
    else if faultGone s a = false then refuse .notReady [⟨.axis, a.val⟩] s
    else done (modAxis a clearedAxis s)

/-! ## The log requests (R173) -/

/-- SET_LOG_MODE at the stop and fault unit (R173). -/
def setLogModeBody (mode : Nat) (s : State) : State × Reply :=
  match logModeNamed mode with
  | none => refuse .badValue [] s
  | some m => if saving s then refuse .busy [] s else done { s with logMode := m }

/-! ## The meanings -/

/-- STOP_ALL (R162, R167). -/
def execStopAll (q : Req) (s : State) : Host.Outcome State Fault Refusal :=
  takeRequest q 0x50 (fun t => done (raiseAllStop (stationStop q.st) t)) s

/-- RELEASE_ALL_STOP (R166). -/
def execReleaseAllStop (q : Req) (s : State) : Host.Outcome State Fault Refusal :=
  takeRequest q 0x51 releaseAllStopBody s

/-- RAISE_ALARM (R168). -/
def execRaiseAlarm (q : Req) (number cls flyer : Nat) (s : State) : Host.Outcome State Fault Refusal :=
  takeRequest q 0x52 (raiseAlarmBody q.st number cls flyer) s

/-- CLEAR_FAULT (R170). -/
def execClearFault (q : Req) (flyer : Nat) (s : State) : Host.Outcome State Fault Refusal :=
  takeRequest q 0x53 (clearFaultBody q flyer) s

/-- CLEAR_AXIS (R171). -/
def execClearAxis (q : Req) (axis : Nat) (s : State) : Host.Outcome State Fault Refusal :=
  takeRequest q 0x54 (clearAxisBody axis) s

/-- SET_LOG_MODE (R173). -/
def execSetLogMode (q : Req) (mode : Nat) (s : State) : Host.Outcome State Fault Refusal :=
  takeRequest q 0x55 (setLogModeBody mode) s

/-- CLEAR_LOG (R173). -/
def execClearLog (q : Req) (s : State) : Host.Outcome State Fault Refusal :=
  takeRequest q 0x56 (fun t => done { t with log := [] }) s

/-- ESTOP_CHAIN: the input opens (R162, R167). During start-up only the level changes, which START_UP_END reads
(R192); an input that is open does not open again (log entry 3). -/
def execEstopChain (s : State) : Host.Outcome State Fault Refusal :=
  if s.chainOpen then .next s
  else if running s then .next (finish (raiseAllStop chainStop { s with chainOpen := true }))
  else .next { s with chainOpen := true }

/-- STOP_CHAIN_CLOSED: the input closes (R167). -/
def execStopChainClosed (s : State) : Host.Outcome State Fault Refusal := .next { s with chainOpen := false }

end Sys2Proof.Machine
end

