-- ==== Sys2Proof/Machine/Startup.lean ====
section
/-! DEFINITION. The resets and the end of start-up (R46, R60, R80, R155, R174, R191 to R195, R199). -/

namespace Sys2Proof.Machine

/-! ## The resets -/

/-- The part right after a power-on reset: every piece of state at its reset value, the flash and the stop chain, which
stand outside the part, and the model's own fields as they are (R192). -/
def poweredOn (s : State) : State :=
  { State.reset with flash := s.flash, chainOpen := s.chainOpen, free := s.free, pending := s.pending }

/-- An axis after a warm reset, before its mapping is applied: its parameter set kept (R46, R155). -/
def warmAxis (x : Axis) : Axis := { Axis.initial with params := x.params }

/-- A flyer after a warm reset: its definition and rig constants kept (R46). -/
def warmFlyer (x : Flyer) : Flyer :=
  { Flyer.initial with defn := x.defn, rig := x.rig, state := if x.defn.isSome then .unready else .undefined }

/-- A drive port after a warm reset: its active table kept, the shadow equal to it (R155). -/
def warmPort (x : Port) : Port := { Port.initial with active := x.active, shadow := x.active }

/-- The part right after a warm reset: the configuration, the cues and the log kept (R46, R60, R80, R155, R174, R191,
R192, R199). -/
def warmed (s : State) : State :=
  { poweredOn s with
    startup := .warm, t := s.t, cfgT := s.cfgT, cutoff := s.cutoff, axes := s.axes.map warmAxis,
    flyers := s.flyers.map warmFlyer, formations := s.formations, zones := s.zones, dsep := s.dsep, dir := s.dir,
    ports := s.ports.map warmPort, log := s.log, logMode := s.logMode }

/-! ## The end of start-up -/

/-- An axis by its mapping: UNREFERENCED in an active slot, and UNMAPPED otherwise (R46, R195). -/
def mapAxis (a : AxisId) (s : State) : State :=
  modAxis a (fun x => { x with state := if (portOfAxis s a).isSome then .unreferenced else .unmapped }) s

/-- Every shadow table set equal to its active table (R155, R194). -/
def alignShadow (p : PortId) (s : State) : State := modPort p (fun x => { x with shadow := x.active }) s

/-- All-stop raised by an open chain at start-up: logged, with no cut-off count (R174, R192). -/
def readChain (s : State) : State :=
  if s.chainOpen then { logCause chainStop .allStop none s with allStop := some chainStop, cutCount := 0 } else s

/-- The end of start-up, on the state that holds the configuration (R192, R195). -/
def startRunning (s : State) : State :=
  let s1 := readChain (forEach allAxes mapAxis (forEach allPorts alignShadow s))
  finish { s1 with clock := 0, startup := .running }

/-! ## The meanings -/

/-- POWER_ON_RESET (R192): at any time it begins the power-on start-up. -/
def execPowerOnReset (s : State) : Host.Outcome State Fault Refusal := .next (poweredOn s)

/-- WARM_RESET (R192): during the start-up that follows a power-on reset, that start-up begins again. -/
def execWarmReset (s : State) : Host.Outcome State Fault Refusal :=
  match s.startup with
  | .powerOn => .next (poweredOn s)
  | .running | .warm => .next (warmed s)

/-- START_UP_END (R192): start-up sets every piece of state to its value after the reset, and after a power-on reset
loads the image; `answers` says whether the flash answers the reads. Where no start-up runs there is no such event
(log entry 3). -/
def execStartUpEnd (answers : Bool) (s : State) : Host.Outcome State Fault Refusal :=
  match s.startup with
  | .powerOn => .next (startRunning (loadImage answers (poweredOn s)))
  | .warm => .next (startRunning (warmed s))
  | .running => .next s

end Sys2Proof.Machine
end

