-- ==== Sys2Proof/Machine/Dispatch.lean ====
section
/-! DEFINITION. The meaning of each command: one arm for each row of spec/opcode_table.json. -/

namespace Sys2Proof.Machine

/-- The effect of a command on everything but the queue of commands. -/
def exec (i : Instr) (s : State) : Host.Outcome State Fault Refusal :=
  match i with
  | .readStatus q => Sys2Proof.Machine.execReadStatus q s
  | .readFlyer q n => Sys2Proof.Machine.execReadFlyer q n s
  | .readAxis q n => Sys2Proof.Machine.execReadAxis q n s
  | .readZone q n => Sys2Proof.Machine.execReadZone q n s
  | .readCue q n m => Sys2Proof.Machine.execReadCue q n m s
  | .readLog q n => Sys2Proof.Machine.execReadLog q n s
  | .readCounters q => Sys2Proof.Machine.execReadCounters q s
  | .claimFlyer q n => Sys2Proof.Machine.execClaimFlyer q n s
  | .releaseFlyer q n => Sys2Proof.Machine.execReleaseFlyer q n s
  | .setAxis q n p => Sys2Proof.Machine.execSetAxis q n p s
  | .setFlyer q n d => Sys2Proof.Machine.execSetFlyer q n d s
  | .clearFlyer q n => Sys2Proof.Machine.execClearFlyer q n s
  | .setFormation q n d => Sys2Proof.Machine.execSetFormation q n d s
  | .clearFormation q n => Sys2Proof.Machine.execClearFormation q n s
  | .locate q n p => Sys2Proof.Machine.execLocate q n p s
  | .setZone q n d => Sys2Proof.Machine.execSetZone q n d s
  | .setSeparation q n => Sys2Proof.Machine.execSetSeparation q n s
  | .writeSlots q n a b => Sys2Proof.Machine.execWriteSlots q n a b s
  | .swapSlots q n => Sys2Proof.Machine.execSwapSlots q n s
  | .cueSegment q d => Sys2Proof.Machine.execCueSegment q d s
  | .deleteCue q n => Sys2Proof.Machine.execDeleteCue q n s
  | .startCue q n m => Sys2Proof.Machine.execStartCue q n m s
  | .hold q n => Sys2Proof.Machine.execHold q n s
  | .resume q n => Sys2Proof.Machine.execResume q n s
  | .go q n => Sys2Proof.Machine.execGo q n s
  | .stopFlyer q n => Sys2Proof.Machine.execStopFlyer q n s
  | .jog q n v => Sys2Proof.Machine.execJog q n v s
  | .stopAll q => Sys2Proof.Machine.execStopAll q s
  | .releaseAllStop q => Sys2Proof.Machine.execReleaseAllStop q s
  | .raiseAlarm q n c f => Sys2Proof.Machine.execRaiseAlarm q n c f s
  | .clearFault q n => Sys2Proof.Machine.execClearFault q n s
  | .clearAxis q n => Sys2Proof.Machine.execClearAxis q n s
  | .setLogMode q m => Sys2Proof.Machine.execSetLogMode q m s
  | .clearLog q => Sys2Proof.Machine.execClearLog q s
  | .setTiming q t c => Sys2Proof.Machine.execSetTiming q t c s
  | .saveConfig q => Sys2Proof.Machine.execSaveConfig q s
  | .unknownRequest q c => Sys2Proof.Machine.execUnknownRequest q c s
  | .stationFrameDiscarded st => Sys2Proof.Machine.execStationFrameDiscarded st s
  | .responseQueueFull st e => Sys2Proof.Machine.execResponseQueueFull st e s
  | .responseSent st => Sys2Proof.Machine.execResponseSent st s
  | .silenceTimerExpiry st => Sys2Proof.Machine.execSilenceTimerExpiry st s
  | .motionFrame => Sys2Proof.Machine.execMotionFrame s
  | .feedbackFrame p e a b => Sys2Proof.Machine.execFeedbackFrame p e a b s
  | .feedbackDiscarded p => Sys2Proof.Machine.execFeedbackDiscarded p s
  | .feedbackLost p => Sys2Proof.Machine.execFeedbackLost p s
  | .brakeTimeout f => Sys2Proof.Machine.execBrakeTimeout f s
  | .dwellEnd f => Sys2Proof.Machine.execDwellEnd f s
  | .jogValidityExpiry f => Sys2Proof.Machine.execJogValidityExpiry f s
  | .cutoff => Sys2Proof.Machine.execCutoff s
  | .estopChain => Sys2Proof.Machine.execEstopChain s
  | .stopChainClosed => Sys2Proof.Machine.execStopChainClosed s
  | .powerOnReset => Sys2Proof.Machine.execPowerOnReset s
  | .warmReset => Sys2Proof.Machine.execWarmReset s
  | .startUpEnd b => Sys2Proof.Machine.execStartUpEnd b s
  | .flashOperationDone d => Sys2Proof.Machine.execFlashOperationDone d s
  | .saveBusyTimeout => Sys2Proof.Machine.execSaveBusyTimeout s
  | .showClockTick => Sys2Proof.Machine.execShowClockTick s

end Sys2Proof.Machine
end

