-- ==== Sys2Proof/Safety.lean ====
section
/-! DEFINITION. The terms that claims about the part use: a request taken and answered, and the invariants of the
machine. -/

namespace Sys2Proof.Machine

/-! ## Requests -/

/-- A request is taken and decided by its rule: the part is running, the frame's length is the one the request's fields
need, and the response queue has room (R176, R177, R192). -/
structure Taken (q : Req) (s : State) : Prop where
  running : running s = true
  fits : q.fits = true
  room : (s.station q.st).queue.length < Config.queuePlaces

/-- The state that the arrival of a valid frame leaves when its request is taken (R176 steps 1, 2 and 4). -/
def arrived (q : Req) (s : State) : State :=
  modStation q.st (fun p => { p with good := p.good + 1 }) (arrive q.st q.enable s)

/-- A command answers a request: with the result and the fields given, over the state `v` that the request's own effect
leaves, the event then ended as every event is (R169, R177, R185). -/
def Answered (c : Instr) (q : Req) (code : Nat) (r : ResultCode) (b : ReplyBody) (s v : State) : Prop :=
  exec c s = .next (finish (answer q code ⟨r, b⟩ v))

/-- A request is refused with the items it names; `v` is what the refusal leaves (R180). -/
def Refused (c : Instr) (q : Req) (code : Nat) (r : ResultCode) (items : List Item) (s v : State) : Prop :=
  Answered c q code r (.detail items) s v

/-- A request is answered DONE with no fields; `v` is what it leaves (R180). -/
def Completed (c : Instr) (q : Req) (code : Nat) (s v : State) : Prop := Answered c q code .done .empty s v

/-- A motion request passes the checks that stand before the state checks of its own rule (R42, R164, R181, R182). -/
structure MotionOpen (q : Req) (f : FlyerId) (needEnable : Bool) (u : State) : Prop where
  owner : (u.grant f).owner = some q.st
  enabled : needEnable = true → q.enable = true
  calm : u.allStop = none
  leads : isFollower u f = false
  defined : (u.flyer f).state ≠ .undefined

/-- The request and the request code that a command carries, for the commands that are station requests (R201). -/
def asRequest : Instr → Option (Req × Nat)
  | .readStatus q => some (q, 0x01)
  | .readFlyer q _ => some (q, 0x02)
  | .readAxis q _ => some (q, 0x03)
  | .readZone q _ => some (q, 0x04)
  | .readCue q _ _ => some (q, 0x05)
  | .readLog q _ => some (q, 0x06)
  | .readCounters q => some (q, 0x07)
  | .claimFlyer q _ => some (q, 0x10)
  | .releaseFlyer q _ => some (q, 0x11)
  | .setAxis q _ _ => some (q, 0x20)
  | .setFlyer q _ _ => some (q, 0x21)
  | .clearFlyer q _ => some (q, 0x22)
  | .setFormation q _ _ => some (q, 0x23)
  | .clearFormation q _ => some (q, 0x24)
  | .locate q _ _ => some (q, 0x25)
  | .setZone q _ _ => some (q, 0x28)
  | .setSeparation q _ => some (q, 0x29)
  | .writeSlots q _ _ _ => some (q, 0x2C)
  | .swapSlots q _ => some (q, 0x2D)
  | .cueSegment q _ => some (q, 0x30)
  | .deleteCue q _ => some (q, 0x31)
  | .startCue q _ _ => some (q, 0x40)
  | .hold q _ => some (q, 0x41)
  | .resume q _ => some (q, 0x42)
  | .go q _ => some (q, 0x43)
  | .stopFlyer q _ => some (q, 0x44)
  | .jog q _ _ => some (q, 0x45)
  | .stopAll q => some (q, 0x50)
  | .releaseAllStop q => some (q, 0x51)
  | .raiseAlarm q _ _ _ => some (q, 0x52)
  | .clearFault q _ => some (q, 0x53)
  | .clearAxis q _ => some (q, 0x54)
  | .setLogMode q _ => some (q, 0x55)
  | .clearLog q => some (q, 0x56)
  | .setTiming q _ _ => some (q, 0x57)
  | .saveConfig q => some (q, 0x60)
  | .unknownRequest q code => some (q, code)
  | .stationFrameDiscarded _ | .responseQueueFull _ _ | .responseSent _ | .silenceTimerExpiry _ | .motionFrame
  | .feedbackFrame _ _ _ _ | .feedbackDiscarded _ | .feedbackLost _ | .brakeTimeout _ | .dwellEnd _
  | .jogValidityExpiry _ | .cutoff | .estopChain | .stopChainClosed | .powerOnReset | .warmReset | .startUpEnd _
  | .flashOperationDone _ | .saveBusyTimeout | .showClockTick => none

/-- The state that the readiness rule gives a flyer whose members are all READY, or not, and whose located flag is as
given (R35). -/
def readyState (ready located : Bool) : FlyerState → FlyerState
  | .unready | .unlocated | .parked => if ready = false then .unready else if located then .parked else .unlocated
  | st => st

/-- `c` is the state after the commit of a frame that takes `f`, with its formation, from `s` to the leader's point `p`:
every member at its offset from `p` with the two indications, and otherwise changed as `g` says; for every line whose axis
is ENGAGED the committed length and the counts of the member's point; and nothing else (R97, R117, R118, R133). -/
structure CommittedTo (s c : State) (f : FlyerId) (p : Vec3) (governed atLimit : Bool) (g : FlyerId → Flyer → Flyer) :
    Prop where
  frame : ∃ A F, c = { s with axes := A, flyers := F }
  members : ∀ e ∈ concerned s f, c.flyer e.1 =
    { g e.1 (s.flyer e.1) with point := some (p.add (mmToNano e.2)), governed := governed, atLimit := atLimit }
  others : ∀ h, h ∉ concernedFlyers s f → c.flyer h = s.flyer h
  lines : ∀ e ∈ concerned s f, ∀ r, rigOf s e.1 = some r → ∀ l ∈ lineLengths r (p.add (mmToNano e.2)),
    c.axis l.1 =
      if (s.axis l.1).state = .engaged then
        { s.axis l.1 with committed := some l.2.2, outgoing := countsOf l.2.1 l.2.2 }
      else s.axis l.1
  spared : ∀ a, (∀ e ∈ concerned s f, ∀ r, rigOf s e.1 = some r → a ∉ r.lines.map fun l => l.1) → c.axis a = s.axis a

/-- A flyer that no formation names (R30). -/
def Alone (s : State) (f : FlyerId) : Prop := formationNaming s f = none

/-! ## Invariants -/

/-- The alarm output stands as R169 has it, and no flyer that is at rest for grants is marked for release (R185). -/
def Settled (s : State) : Prop :=
  s.alarm = alarmLine s ∧ ∀ f, (s.grant f).mark = true → allRestForGrants s f = false

/-- An axis stands in at most one slot of all active slot tables together, and no shadow table names an axis twice
(R149, R151). -/
def SlotsApart (s : State) : Prop :=
  (∀ p g a, (s.port p).active.has a = true → (s.port g).active.has a = true → p = g) ∧
    ∀ p, (s.port p).active.doubled = false ∧ (s.port p).shadow.doubled = false

/-- A state of a flyer that all-stop leaves possible (R163). -/
def FlyerState.calm : FlyerState → Bool
  | .releasing | .cueRun _ | .holding | .held _ | .jogging => false
  | .undefined | .unready | .unlocated | .parked | .stopping _ | .faulted => true

/-- While all-stop is active, no flyer is in RELEASING, CUE_RUN, HOLDING, HELD or JOGGING (R163). -/
def AllStopCalm (s : State) : Prop := s.allStop ≠ none → ∀ f, (s.flyer f).state.calm = true

/-- The bounded stores of the log and the links: the fault log (R172), the response queues (R175) and the miss counts
(R136). -/
def Bounded (s : State) : Prop :=
  s.log.length ≤ Config.logPlaces ∧ (∀ st, (s.station st).queue.length ≤ Config.queuePlaces) ∧
    ∀ p, (s.port p).miss ≤ 255

/-- The records that an upload context holds. -/
def uploadLength : Option Upload → Nat
  | some u => u.recs.length
  | none => 0

/-- Record places in use: by the complete cues and by the open uploads (R65). -/
def placesUsed (s : State) : Nat :=
  (s.dir.map fun c => c.recs.length).sum + uploadLength s.stationA.upload + uploadLength s.stationB.upload

/-- The cue directory stands in order of cue number, so that a number stands in it once, and neither it nor the record
pool is over-full (R64, R65). -/
def StoreSound (s : State) : Prop :=
  s.dir.Pairwise (fun a b => a.num < b.num) ∧ s.dir.length ≤ Config.directoryPlaces ∧ placesUsed s ≤ Config.poolPlaces

/-- An axis is a member of at most one flyer, and stands once in its member list (R31). -/
def MembersApart (s : State) : Prop :=
  (∀ f g a, a ∈ membersOf s f → a ∈ membersOf s g → f = g) ∧ ∀ f, (membersOf s f).Nodup

/-- No two formation records name one flyer, and no record names a flyer twice (R43). -/
def FormationsSound (s : State) : Prop :=
  (∀ n m x y f, s.formation n = some x → s.formation m = some y → x.names f = true → y.names f = true → n = m) ∧
    ∀ n x, s.formation n = some x → (x.flyers.map fun e => e.1).Nodup

/-- Every cue number in the reach set of an active run is present in the directory (R77). -/
def ReachPresent (s : State) : Prop := ∀ n, inReach s n = true → (cueOf s.dir n).isSome = true

end Sys2Proof.Machine
end

