-- ==== Sys2Proof/Certificates/Slice0/Obligations.lean ====
section
/-! DEFINITION. The statements about the part. Each is about every state and every operand that its hypotheses admit,
and each names the rules it formalises. A request's statement gives the answer and the whole state the request leaves:
`arrived q s` is what the arrival of the frame leaves, and `Answered`, `Refused` and `Completed` say that the command
ends, in its next state, with the answer given over a further state, which is written out. -/

open Sys2Proof Sys2Proof.Machine

/-! ## The machine -/

/-- The command at the front of the queue is the one taken, with the queue's rest; the empty queue idles, which is the
model's choice (log entry 1). -/
def Obligations.StepTakesTheFrontCommand : Prop :=
  (∀ (c : Instr) (rest : List Instr) (s : State),
    step { s with pending := c :: rest } = exec c { s with pending := rest }) ∧
  ∀ s : State, s.pending = [] → step s = .next s

/-- Every command, in every state, ends in a next state and leaves the waiting commands as they were. That the queue is
no concern of a command, that an event that is not due changes nothing, and that start-up takes no other command are
the model's readings (log entries 1, 3, 8). -/
def Obligations.EveryCommandAnswersANextState : Prop :=
  ∀ (c : Instr) (s : State), ∃ t, exec c s = .next t ∧ t.pending = s.pending

/-! ## Station ports -/

/-- What the arrival of a valid frame does before its request is decided (R175, R176). -/
def Obligations.ArrivalTakesEnableLinkAndTimer : Prop :=
  ∀ (q : Req) (s : State),
    let u := arrived q s
    u.station q.st =
      { s.station q.st with
        enable := q.enable, link := .up, silence := some 250, good := (s.station q.st).good + 1 } ∧
    (∀ st, st ≠ q.st → u.station st = s.station st) ∧
    (q.enable = true → u.axes = s.axes ∧ u.flyers = s.flyers) ∧
    (q.enable = false → u.axes = (enableRelease q.st s).axes ∧ u.flyers = (enableRelease q.st s).flyers) ∧
    u = { s with axes := u.axes, flyers := u.flyers, stationA := u.stationA, stationB := u.stationB }

/-- What an enable release does to every flyer and to every axis, by the state of the flyer that leads it and by that
flyer's owner: a release under way ends with the flyer PARKED and its members out of ENGAGED, and no other flyer's axis
changes (R38, R39, R127, R178). -/
def Obligations.EnableReleaseActsByFlyerState : Prop :=
  ∀ (st : Station) (s : State), FormationsSound s →
    let t := enableRelease st s
    (∃ A F, t = { s with axes := A, flyers := F }) ∧
    (∀ a, t.axis a =
      if (s.axis a).state = .engaged ∧ ∃ g, a ∈ membersOf s g ∧ (s.flyer (leaderOf s g)).state = .releasing ∧
          (s.grant (leaderOf s g)).owner = some st then
        { s.axis a with state := .ready, committed := none }
      else s.axis a) ∧
    ∀ g : FlyerId,
      let f := leaderOf s g
      let x := s.flyer g
      if (s.grant f).owner = some st then
        match (s.flyer f).state with
        | .releasing => t.flyer g = { x with state := .parked, run := none }
        | .cueRun .moving => t.flyer g = { x with state := .holding }
        | .cueRun .dwelling => t.flyer g = { x with state := .held .dwelling }
        | .cueRun .waiting => t.flyer g = { x with state := .held .waiting }
        | .jogging =>
          t.flyer g =
            if g = f then { x with run := x.run.map fun r => { r with jogReq := Vec3.zero, jogValid := 0 } } else x
        | .undefined | .unready | .unlocated | .parked | .holding | .held _ | .stopping _ | .faulted => t.flyer g = x
      else t.flyer g = x

/-- A request that finds four responses queued is not taken; a frame of the wrong length is answered BAD_FRAME, which
for CUE_SEGMENT rewinds the upload; a request code that names no request is answered UNKNOWN (R176, R177, R67; that
BAD_FRAME rewinds the upload is the model's reading, log entry 14). -/
def Obligations.RequestsThatAreNotServed : Prop :=
  ∀ (c : Instr) (q : Req) (code : Nat) (s : State), asRequest c = some (q, code) → running s = true →
    (4 ≤ (s.station q.st).queue.length →
      exec c s = .next (finish (modStation q.st (fun p => { p with discarded := p.discarded + 1 })
        (arrive q.st q.enable s))) ∧
      exec (.responseQueueFull q.st q.enable) s = exec c s) ∧
    ((s.station q.st).queue.length < 4 →
      (c = .unknownRequest q code → Refused c q code .unknown [] s (arrived q s)) ∧
      (q.fits = false → (∀ seg, c ≠ .cueSegment q seg) → c ≠ .unknownRequest q code →
        Refused c q code .badFrame [] s (arrived q s)) ∧
      (q.fits = false → ∀ seg, c = .cueSegment q seg →
        Refused c q code .badFrame [] s (modStation q.st (fun p => { p with upload := none }) (arrived q s))))

/-- Discarded frames raise their counter, a response that has been sent leaves the head of its queue, and a tick raises
the show clock and lowers the running silence timers; each changes nothing else (R140, R175, R176, R177, R193). That
the tick is the ms of the silence timers is the model's reading, log entry 7; a tick that finds a timer at 0, and takes
its expiry first by that entry, is left out. -/
def Obligations.LinkEventsChangeOnlyTheirOwnState : Prop :=
  ∀ s : State, running s = true →
    (∀ st, exec (.stationFrameDiscarded st) s =
      .next (finish (modStation st (fun p => { p with discarded := p.discarded + 1 }) s))) ∧
    (∀ p, exec (.feedbackDiscarded p) s =
      .next (finish (modPort p (fun x => { x with discarded := x.discarded + 1 }) s))) ∧
    (∀ st r rest, (s.station st).queue = r :: rest →
      exec (.responseSent st) s =
        .next (finish (modStation st (fun p => { p with queue := rest, line := Response.frame r }) s))) ∧
    ((∀ st, (s.station st).silence ≠ some 0) →
      exec .showClockTick s =
        .next (finish { s with
          clock := s.clock + 1
          stationA := { s.stationA with silence := s.stationA.silence.map fun n => n - 1 }
          stationB := { s.stationB with silence := s.stationB.silence.map fun n => n - 1 } }))

/-- What `answer` and `finish` do. An answer is one response at the end of its port's queue, counted where it is a
refusal; and `finish`, with which the statements below end every event, leaves the alarm line as R169 has it and the
marked flyers at rest released (R169, R177, R180, R185; that both stand at the end of the event is the model's reading,
log entry 29). -/
def Obligations.AnswersAndTheEndOfEveryEvent : Prop :=
  (∀ (q : Req) (code : Nat) (r : Reply) (s : State),
    answer q code r s =
      s.setStation q.st { s.station q.st with
        queue := (s.station q.st).queue ++ [⟨q.tag, code, r.result, r.body⟩]
        refused := if r.result = .done ∨ r.result = .accepted then (s.station q.st).refused
          else (s.station q.st).refused + 1 }) ∧
  ∀ s : State,
    let t := finish s
    t = { s with grants := t.grants, alarm := t.alarm } ∧
    (t.alarm = true ↔ t.allStop ≠ none ∨ ∃ f, (t.flyer f).state = .faulted) ∧
    ∀ f, t.grant f =
      if (s.grant f).mark = true ∧ allRestForGrants s f = true then { owner := none, mark := false } else s.grant f

/-- The loss of a link: the enable release, LINK_LOST, the upload and the queue gone, the grants weighed (R175, R179,
R185). That the expiry is taken whatever time is left, and that a link that is not in UP has no expiry, are the model's
readings (log entries 7 and 3). -/
def Obligations.SilenceExpiryLosesTheLink : Prop :=
  ∀ (st : Station) (s : State), running s = true →
    ((s.station st).link ≠ .up → exec (.silenceTimerExpiry st) s = .next (finish s)) ∧
    ((s.station st).link = .up → ∃ t, exec (.silenceTimerExpiry st) s = .next (finish t) ∧
      t.station st =
        { s.station st with link := .lost, enable := false, silence := none, upload := none, queue := [] } ∧
      (∀ o, o ≠ st → t.station o = s.station o) ∧
      t.axes = (enableRelease st s).axes ∧ t.flyers = (enableRelease st s).flyers ∧
      t.log = logAfter s.logMode s.log
        { time := s.clock, code := .linkLost, cls := .note, flyer := none, axis := none, station := some st,
          port := none, detail := .none } ∧
      (∀ f, t.grant f =
        if (s.grant f).owner = some st then
          (if allRestForGrants t f = true then { owner := none, mark := false } else { owner := some st, mark := true })
        else s.grant f) ∧
      t = { s with axes := t.axes, flyers := t.flyers, log := t.log, grants := t.grants, stationA := t.stationA,
                   stationB := t.stationB })

/-- A number that names no flyer, axis, zone, port, formation or cue is refused BAD_VALUE and changes nothing (R181). -/
def Obligations.NumbersOutOfRangeAreRefused : Prop :=
  ∀ (q : Req) (s : State), Taken q s →
    (∀ n, 4 ≤ n → ∀ (d : FlyerFields) (v : Vec3) (c : Nat),
      ∀ e ∈ [(Instr.readFlyer q n, 0x02), (.claimFlyer q n, 0x10), (.releaseFlyer q n, 0x11), (.setFlyer q n d, 0x21),
          (.clearFlyer q n, 0x22), (.locate q n v, 0x25), (.startCue q n c, 0x40), (.hold q n, 0x41),
          (.resume q n, 0x42), (.go q n, 0x43), (.stopFlyer q n, 0x44), (.jog q n v, 0x45), (.clearFault q n, 0x53)],
        Refused e.1 q e.2 .badValue [] s (arrived q s)) ∧
    (∀ n, 12 ≤ n → ∀ p : AxisParams,
      ∀ e ∈ [(Instr.readAxis q n, 0x03), (.setAxis q n p, 0x20), (.clearAxis q n, 0x54)],
        Refused e.1 q e.2 .badValue [] s (arrived q s)) ∧
    (∀ n, 8 ≤ n → ∀ d : ZoneFields, ∀ e ∈ [(Instr.readZone q n, 0x04), (.setZone q n d, 0x28)],
        Refused e.1 q e.2 .badValue [] s (arrived q s)) ∧
    (∀ n, 6 ≤ n → ∀ a b : Nat, ∀ e ∈ [(Instr.writeSlots q n a b, 0x2C), (.swapSlots q n, 0x2D)],
        Refused e.1 q e.2 .badValue [] s (arrived q s)) ∧
    (∀ n, 2 ≤ n → ∀ d : FormationFields,
      ∀ e ∈ [(Instr.setFormation q n d, 0x23), (.clearFormation q n, 0x24)],
        Refused e.1 q e.2 .badValue [] s (arrived q s)) ∧
    (∀ n, n = 0 ∨ 200 < n → ∀ f : Nat, ∀ e ∈ [(Instr.deleteCue q n, 0x31), (.startCue q f n, 0x40)],
        Refused e.1 q e.2 .badValue [] s (arrived q s))

/-- The motion requests and LOCATE are refused in the order grant, enable, all-stop, follower, UNDEFINED, before any
test of the flyer's state (R42, R164, R181, R182). For LOCATE the clause is the model's choice where it goes beyond them
(log entry 19): a follower is refused BUSY before its state is tested, and an UNDEFINED flyer, of which `locateInRange`
holds at every point, is refused NOT_OWNER or NOT_READY whatever the coordinates. -/
def Obligations.MotionRequestsPassTheirChecksInOrder : Prop :=
  ∀ (q : Req) (f : FlyerId) (cue : Nat) (v p : Vec3) (s : State), Taken q s → 1 ≤ cue → cue ≤ 200 →
    let u := arrived q s
    locateInRange u f p = true →
    ∀ e ∈ [(Instr.startCue q f.val cue, 0x40, true), (.hold q f.val, 0x41, false), (.resume q f.val, 0x42, true),
        (.go q f.val, 0x43, true), (.stopFlyer q f.val, 0x44, false), (.jog q f.val v, 0x45, true),
        (.locate q f.val p, 0x25, false)],
      ((u.grant f).owner ≠ some q.st → Refused e.1 q e.2.1 .notOwner [] s u) ∧
      ((u.grant f).owner = some q.st →
        (e.2.2 = true → q.enable = false → Refused e.1 q e.2.1 .noEnable [] s u) ∧
        ((e.2.2 = true → q.enable = true) →
          (u.allStop ≠ none → Refused e.1 q e.2.1 .allStop [] s u) ∧
          (u.allStop = none →
            (isFollower u f = true → Refused e.1 q e.2.1 .busy [] s u) ∧
            (isFollower u f = false → (u.flyer f).state = .undefined → Refused e.1 q e.2.1 .notReady [] s u))))

/-! ## Reads -/

/-- READ_STATUS and READ_COUNTERS return what stands when they are taken and change nothing else (R186, R190). -/
def Obligations.ReadStatusAndReadCountersReturnTheState : Prop :=
  ∀ (q : Req) (s : State), Taken q s →
    let u := arrived q s
    (∃ v : StatusView, Answered (.readStatus q) q 0x01 .done (.status v) s u ∧
      v.links = [(u.stationA.link, u.stationA.enable), (u.stationB.link, u.stationB.enable)] ∧
      v.flyers = allFlyers.map (fun f =>
        { state := (u.flyer f).state, grant := u.grant f, located := (u.flyer f).located,
          formation := formationRole u f }) ∧
      v.allStop = u.allStop ∧ v.cutCount = u.cutCount ∧ v.cutoff = u.cutoff ∧ v.chainOpen = u.chainOpen ∧
      v.alarm = u.alarm ∧
      v.ports = allPorts.map (fun p =>
        { active := (u.port p).active, shadow := (u.port p).shadow, swap := (u.port p).swap,
          miss := (u.port p).miss }) ∧
      v.t = u.t ∧ v.cfgT = u.cfgT ∧ v.dsep = u.dsep ∧ v.logMode = u.logMode ∧ v.logCount = u.log.length ∧
      v.image = u.image ∧ v.clock = u.clock) ∧
    ∃ v : CountersView, Answered (.readCounters q) q 0x07 .done (.counters v) s u ∧
      v.stations = [(u.stationA.good, u.stationA.discarded, u.stationA.refused),
        (u.stationB.good, u.stationB.discarded, u.stationB.refused)] ∧
      v.ports = allPorts.map fun p => ((u.port p).sent, (u.port p).good, (u.port p).discarded, (u.port p).missed)

/-- READ_FLYER, READ_AXIS and READ_ZONE return the record named and change nothing else (R187 to R189). That a follower
is read with its leader's run context and its own state is the model's reading, log entry 27. -/
def Obligations.ReadFlyerAxisAndZoneReturnTheRecord : Prop :=
  ∀ (q : Req) (s : State), Taken q s →
    let u := arrived q s
    (∀ f : FlyerId, ∃ v : FlyerView, Answered (.readFlyer q f.val) q 0x02 .done (.flyer v) s u ∧
      v.state = (u.flyer f).state ∧ v.grant = u.grant f ∧
      ((u.flyer f).defn = none → v.body = none) ∧
      ∀ d, (u.flyer f).defn = some d → ∃ b, v.body = some b ∧
        b.defn = d ∧ b.kind = rigKindOf d.members.length ∧ b.rig = (u.flyer f).rig ∧
        b.located = (u.flyer f).located ∧ b.point = (u.flyer f).point ∧ b.ring = ringOf u f ∧
        b.mark = (u.flyer f).mark ∧ b.markCount = (u.flyer f).markCount ∧ b.governed = (u.flyer f).governed ∧
        b.atLimit = (u.flyer f).atLimit ∧ b.cause = (u.flyer f).cause ∧ b.formation = formationRole u f ∧
        b.run = (u.flyer (leaderOf u f)).run ∧
        b.jogSpeed = b.run.bind fun r => if r.kind = .jog then some (rootNearest r.jogV.sq.toNat) else none) ∧
    (∀ a : AxisId, ∃ v : AxisView, Answered (.readAxis q a.val) q 0x03 .done (.axis v) s u ∧
      v.params = (u.axis a).params ∧ v.state = (u.axis a).state ∧
      v.cause = (if (u.axis a).state = .faulted then (u.axis a).cause else none) ∧
      v.flyer = flyerOfAxis u a ∧ v.place = placeOfAxis u a ∧ v.outgoing = (u.axis a).outgoing ∧
      v.history = (if (u.axis a).state = .unmapped then none else some ((u.axis a).current, (u.axis a).previous)) ∧
      v.committed = (if (u.axis a).state = .engaged then (u.axis a).committed else none) ∧
      v.feedback = (if (u.axis a).state = .unmapped then none else (u.axis a).feedback) ∧
      v.measured = ((u.axis a).params.bind fun p => (u.axis a).feedback.map fun fb => measuredLength p fb.counts) ∧
      v.slack = (u.axis a).slack) ∧
    ∀ z : ZoneId, Answered (.readZone q z.val) q 0x04 .done (.zone (u.zone z)) s u

/-- READ_LOG returns up to six entries from its start index, and READ_CUE the summary of the store or up to eight
records, with their refusals (R79, R189; that the flags byte of a MOVE is sent with its undefined bits 0 is the model's
reading, log entry 22). -/
def Obligations.ReadLogAndReadCueReturnTheStores : Prop :=
  ∀ (q : Req) (s : State), Taken q s →
    let u := arrived q s
    (∀ i,
      (23 < i ∨ (u.log.length ≤ i ∧ ¬(i = 0 ∧ u.log = [])) → Refused (.readLog q i) q 0x06 .badValue [] s u) ∧
      (i ≤ 23 → i < u.log.length ∨ (i = 0 ∧ u.log = []) →
        Answered (.readLog q i) q 0x06 .done (.log u.logMode u.log.length ((u.log.drop i).take 6)) s u)) ∧
    (∀ c i, 200 < c ∨ 249 < i ∨ (c = 0 ∧ i ≠ 0) → Refused (.readCue q c i) q 0x05 .badValue [] s u) ∧
    (∃ v : CueSummary, Answered (.readCue q 0 0) q 0x05 .done (.summary v) s u ∧
      v.entries = u.dir.length ∧ v.free = 4096 - placesUsed u ∧ v.present = u.dir.map (fun c => c.num) ∧
      v.uploads = [u.stationA.upload, u.stationB.upload].map fun o => o.map fun x =>
        { num := x.num, total := x.total, kind := x.kind, soFar := x.recs.length, next := x.next }) ∧
    ∀ c i, 1 ≤ c → c ≤ 200 → i ≤ 249 →
      (cueOf u.dir c = none → Refused (.readCue q c i) q 0x05 .noCue [] s u) ∧
      ∀ x, cueOf u.dir c = some x →
        (x.recs.length ≤ i → Refused (.readCue q c i) q 0x05 .badValue [] s u) ∧
        (i < x.recs.length → ∃ rs, Answered (.readCue q c i) q 0x05 .done (.cue x.kind x.recs.length rs) s u ∧
          rs.length = min 8 (x.recs.length - i) ∧
          ∀ j r, rs[j]? = some r → ∃ y, x.recs[i + j]? = some y ∧
            r = if y.kind = 1 then { y with flags := y.flags % 2 } else y)

/-! ## Grants -/

/-- CLAIM_FLYER and RELEASE_FLYER take and give up the flyer named and its formation as one (R183, R184). -/
def Obligations.ClaimAndReleaseActOnEveryFlyerConcerned : Prop :=
  ∀ (q : Req) (f : FlyerId) (s : State), Taken q s →
    let u := arrived q s
    ((∃ g ∈ concernedFlyers u f, (u.grant g).owner ≠ none ∧ (u.grant g).owner ≠ some q.st) →
      Refused (.claimFlyer q f.val) q 0x10 .owned [] s u) ∧
    ((∀ g ∈ concernedFlyers u f, (u.grant g).owner = none ∨ (u.grant g).owner = some q.st) →
      ∃ G, let v : State := { u with grants := G }
        Completed (.claimFlyer q f.val) q 0x10 s v ∧
        ∀ g, v.grant g =
          if g ∈ concernedFlyers u f then { owner := some q.st, mark := false } else u.grant g) ∧
    (∀ n, 4 ≤ n → Refused (.releaseFlyer q n) q 0x11 .badValue [] s u) ∧
    ((u.grant f).owner ≠ some q.st → Refused (.releaseFlyer q f.val) q 0x11 .notOwner [] s u) ∧
    ((u.grant f).owner = some q.st →
      (∀ g before after, concernedFlyers u f = before ++ g :: after →
        (∀ h ∈ before, releasable (u.flyer h).state = none) → releasable (u.flyer g).state ≠ none →
        Refused (.releaseFlyer q f.val) q 0x11 .busy [⟨.flyer, g.val⟩] s u) ∧
      ((∀ g ∈ concernedFlyers u f, releasable (u.flyer g).state = none) →
        ∃ G, let v : State := { u with grants := G }
          Completed (.releaseFlyer q f.val) q 0x11 s v ∧
          ∀ g, v.grant g =
            if g ∈ concernedFlyers u f then { owner := none, mark := false } else u.grant g))

/-! ## Rig table -/

/-- SET_AXIS, by its rows in order, on an axis that is a member of a flyer and on one that is not (R22). -/
def Obligations.SetAxisReplacesTheParameterSet : Prop :=
  ∀ (q : Req) (a : AxisId) (p : AxisParams) (s : State), Taken q s →
    let u := arrived q s
    let c := Instr.setAxis q a.val p
    let v := u.setAxis a { u.axis a with params := some p, slack := 0 }
    (paramsInRange p = false → Refused c q 0x20 .badValue [] s u) ∧
    (paramsInRange p = true → flyerOfAxis u a = none →
      (u.image = .saving ∨ (u.axis a).state = .engaged → Refused c q 0x20 .busy [] s u) ∧
      (u.image ≠ .saving → (u.axis a).state ≠ .engaged → Completed c q 0x20 s v)) ∧
    ∀ f d, paramsInRange p = true → flyerOfAxis u a = some f → (u.flyer f).defn = some d →
      if (u.grant f).owner ≠ none ∧ (u.grant f).owner ≠ some q.st then Refused c q 0x20 .notOwner [] s u
      else if u.image = .saving ∨ (u.axis a).state = .engaged ∨ (u.flyer f).state.restOutsideRun = false then
        Refused c q 0x20 .busy [] s u
      else if anchorsUsable (paramsWith u a p) d = false then Refused c q 0x20 .badValue [] s u
      else if displaced u f (rigUnder (paramsWith u a p) d) = true then Refused c q 0x20 .occupied [] s u
      else Completed c q 0x20 s (v.setFlyer f { u.flyer f with
        rig := some (rigConstsOf (anchorsUnder (paramsWith u a p) d) d.drop) })

/-- SET_FLYER, by its rows in order, and what it makes of the record (R31, R32, R35, R11). -/
def Obligations.SetFlyerReplacesTheDefinition : Prop :=
  ∀ (q : Req) (f : FlyerId) (fields : FlyerFields) (s : State), Taken q s →
    let u := arrived q s
    let c := Instr.setFlyer q f.val fields
    let x := u.flyer f
    (flyerDefOf fields = none → Refused c q 0x21 .badValue [] s u) ∧
    ∀ d, flyerDefOf fields = some d →
      let rig := some (rigConstsOf (anchorsUnder (paramsOf u) d) d.drop)
      let ready := d.members.all fun a => decide ((u.axis a).state = .ready)
      if (u.grant f).owner ≠ none ∧ (u.grant f).owner ≠ some q.st then Refused c q 0x21 .notOwner [] s u
      else if u.image = .saving then Refused c q 0x21 .busy [] s u
      else if definitionUsable u f d = false then Refused c q 0x21 .badValue [] s u
      else if redefinable x.state = false ∨ someEngaged u f = true then Refused c q 0x21 .busy [] s u
      else if displacedBy u f d = true then Refused c q 0x21 .occupied [⟨.flyer, f.val⟩] s u
      else match x.defn with
      | none =>
        Completed c q 0x21 s (u.setFlyer f {
          defn := some d, rig := rig, state := readyState ready false .unready, located := false, point := none,
          run := none, mark := 0, markCount := 0, governed := false, atLimit := false, cause := none, frozen := false })
      | some old =>
        if rigKindOf old.members.length = rigKindOf d.members.length then
          Completed c q 0x21 s (u.setFlyer f { x with
            defn := some d, rig := rig, state := readyState ready x.located x.state })
        else Completed c q 0x21 s (u.setFlyer f { x with
          defn := some d, rig := rig, located := false, point := none, frozen := false,
          state := readyState ready false x.state })

/-- CLEAR_FLYER, by its rows in order: the flyer UNDEFINED with nothing left of its record and no owner (R33). -/
def Obligations.ClearFlyerRemovesTheDefinition : Prop :=
  ∀ (q : Req) (f : FlyerId) (s : State), Taken q s →
    let u := arrived q s
    let c := Instr.clearFlyer q f.val
    (∀ n, 4 ≤ n → Refused (.clearFlyer q n) q 0x22 .badValue [] s u) ∧
    if (u.grant f).owner ≠ none ∧ (u.grant f).owner ≠ some q.st then Refused c q 0x22 .notOwner [] s u
    else if u.image = .saving then Refused c q 0x22 .busy [] s u
    else if (u.flyer f).state = .undefined then Completed c q 0x22 s u
    else if (u.flyer f).state.restOutsideRun = false ∨ someEngaged u f = true ∨ (formationNaming u f).isSome = true then
      Refused c q 0x22 .busy [] s u
    else Completed c q 0x22 s ((u.setFlyer f {
      defn := none, rig := none, state := .undefined, located := false, point := none, run := none, mark := 0,
      markCount := 0, governed := false, atLimit := false, cause := none, frozen := false }).setGrant f {
      owner := none, mark := false })

/-- SET_FORMATION and CLEAR_FORMATION, by their rows in order; a follower of a new record that does not stand at its
offset from a located leader loses its located flag (R43, R44). That CLEAR_FORMATION answers BUSY while the image is being
saved before the DONE on an empty record, and before the state and ownership conditions, is the model's choice (log
entry 40). -/
def Obligations.FormationRecordsAreReplacedAndCleared : Prop :=
  ∀ (q : Req) (n : FormationId) (fields : FormationFields) (s : State), Taken q s →
    let u := arrived q s
    let c := Instr.setFormation q n.val fields
    let e := Instr.clearFormation q n.val
    let old := match u.formation n with
      | some o => o.flyers.map fun x => x.1
      | none => []
    let busy (fs : List FlyerId) : Prop := ∃ g ∈ fs, (u.flyer g).state.restOutsideRun = false ∨ someEngaged u g = true
    let mixed (fs : List FlyerId) : Prop := ∃ g ∈ fs, ∃ h ∈ fs, (u.grant g).owner ≠ (u.grant h).owner
    let foreign (fs : List FlyerId) : Prop := ∃ g ∈ fs, (u.grant g).owner ≠ none ∧ (u.grant g).owner ≠ some q.st
    (formationOf fields = none → Refused c q 0x23 .badValue [] s u) ∧
    (∀ m, formationOf fields = some m →
      let fs := (m.flyers.map fun x => x.1) ++ old
      (formationUsable u n m = false → Refused c q 0x23 .badValue [] s u) ∧
      (formationUsable u n m = true →
        (u.image = .saving → Refused c q 0x23 .busy [] s u) ∧
        (u.image ≠ .saving →
          (busy fs → Refused c q 0x23 .busy [] s u) ∧
          (¬busy fs →
            (mixed fs → Refused c q 0x23 .owned [] s u) ∧
            (¬mixed fs →
              (foreign fs → Refused c q 0x23 .notOwner [] s u) ∧
              (¬foreign fs → ∃ F,
                let v : State := { u with formations := u.formations.set n (some m), flyers := F }
                Completed c q 0x23 s v ∧
                ∀ g,
                  let x := u.flyer g
                  let l := u.flyer m.leader
                  ((∀ o, (g, o) ∉ m.followers) → v.flyer g = x) ∧
                  ∀ o, (g, o) ∈ m.followers →
                    v.flyer g =
                      if l.located = true ∧ x.point = l.point.map fun p => p.add (mmToNano o) then x
                      else { dropLocated x with
                             state := if x.state = .parked then .unlocated else x.state })))))) ∧
    (u.image = .saving → Refused e q 0x24 .busy [] s u) ∧
    (u.image ≠ .saving →
      (u.formation n = none → Completed e q 0x24 s u) ∧
      ∀ m, u.formation n = some m →
        (busy old → Refused e q 0x24 .busy [] s u) ∧
        (¬busy old →
          (mixed old → Refused e q 0x24 .owned [] s u) ∧
          (¬mixed old →
            (foreign old → Refused e q 0x24 .notOwner [] s u) ∧
            (¬foreign old → Completed e q 0x24 s (u.setFormation n none)))))

/-- LOCATE, past the checks of a motion request: the state of every flyer concerned, the tests of every flyer
concerned, and then the points taken; and a point that passes the tests of one flyer lies in its volume, outside every
zone that applies, under the geometric condition and the line limits, with every measured length within the tolerance
(R36, R181; that the range of the coordinates is tested before every other check is the model's reading, log entry 19).
-/
def Obligations.LocateTakesThePointOfEveryFlyerConcerned : Prop :=
  (∀ (s : State) (f : FlyerId) (p : Vec3) (r : Rig), rigOf s f = some r → locateFailure s f p = none →
    r.volume.holds (ringPoint r p) = true ∧
    (∀ z : ZoneId, (s.zone z).applies f = true → (s.zone z).box.holds (ringPoint r p) = false) ∧
    geometryFailure r p = none ∧
    ∀ e ∈ lineLengths r p,
      1000 * (e.2.1.lmin : Int) ≤ e.2.2 ∧ e.2.2 ≤ 1000 * (e.2.1.lmax : Int) ∧
        ∃ fb, (s.axis e.1).feedback = some fb ∧
          (measuredLength e.2.1 fb.counts - e.2.2).natAbs ≤ 1000 * r.tol) ∧
  ∀ (q : Req) (f : FlyerId) (p : Vec3) (s : State), Taken q s →
    let u := arrived q s
    let c := Instr.locate q f.val p
    (locateInRange u f p = false → Refused c q 0x25 .badValue [] s u) ∧
    (locateInRange u f p = true → MotionOpen q f false u → FormationsSound u →
      (∀ g before after, concernedFlyers u f = before ++ g :: after →
        (∀ h ∈ before, locatable (u.flyer h).state = none) → ∀ r, locatable (u.flyer g).state = some r →
        Refused c q 0x25 r [] s u) ∧
      ((∀ g ∈ concernedFlyers u f, locatable (u.flyer g).state = none) →
        (∀ r, locateRefusal u p (concerned u f) = some r → Refused c q 0x25 r.1 r.2 s u) ∧
        (locateRefusal u p (concerned u f) = none → ∃ F,
          let v : State := { u with flyers := F }
          Completed c q 0x25 s v ∧
          (∀ g, g ∉ concernedFlyers u f → v.flyer g = u.flyer g) ∧
          ∀ e ∈ concerned u f, v.flyer e.1 = { u.flyer e.1 with
            point := some (mmToNano (p.add e.2)), located := true, state := .parked })))

/-! ## Airspace and slots -/

/-- SET_ZONE and SET_SEPARATION, by their rows in order; a zone with its enabled flag clear is always taken while no
image is being saved (R55, R56). The flyer that occupies a zone, the flyer and segment that a zone cuts, and the pairs
that stand too close, each the first in its order (R53, R55, R56, R57). And the remaining path of a flyer: none but in
RELEASING with a pending cue and in the states of a cue run, and there from its point over the end of the current
segment, but not in RELEASING, DWELLING and WAITING, to the waypoints that the records still lead to, repeats and
remaining counts taken at most twice, a follower's with its offset at both ends (R57). A flyer in STOPPING with no
current segment has a path to the next waypoint, which is the model's choice, log entry 36. -/
def Obligations.ZoneAndSeparationEditsAreTestedInOrder : Prop :=
  (∀ (q : Req) (z : ZoneId) (fields : ZoneFields) (n : Nat) (s : State), Taken q s →
    let u := arrived q s
    let c := Instr.setZone q z.val fields
    let e := Instr.setSeparation q n
    (zoneOf fields = none → Refused c q 0x28 .badValue [] s u) ∧
    (∀ r, zoneOf fields = some r →
      (u.image = .saving → Refused c q 0x28 .busy [] s u) ∧
      (u.image ≠ .saving →
        (∀ f, zoneOccupant u r = some f → Refused c q 0x28 .occupied [⟨.flyer, f.val⟩] s u) ∧
        (zoneOccupant u r = none →
          (∀ f i, pathCut u r = some (f, i) →
            Refused c q 0x28 .inUse [⟨.flyer, f.val⟩, ⟨.pathSegment, i⟩] s u) ∧
          (pathCut u r = none → Completed c q 0x28 s (u.setZone z r))) ∧
        (r.enabled = false → Completed c q 0x28 s (u.setZone z r)))) ∧
    (10000 < n → Refused e q 0x29 .badValue [] s u) ∧
    (n ≤ 10000 →
      (u.image = .saving → Refused e q 0x29 .busy [] s u) ∧
      (u.image ≠ .saving →
        (∀ f g, (flyerPairs.find? fun x => pairTooClose u n x.1 x.2) = some (f, g) →
          Refused e q 0x29 .occupied [⟨.flyer, f.val⟩, ⟨.flyer, g.val⟩] s u) ∧
        ((∀ f g : FlyerId, f < g → pairTooClose u n f g = false) → Completed e q 0x29 s { u with dsep := n })))) ∧
  (∀ (s : State) (z : Zone),
    let inside (f : FlyerId) : Prop := z.applies f = true ∧ (s.flyer f).located = true ∧
      ∃ p, ringOf s f = some p ∧ z.box.holds p = true
    let cuts (f : FlyerId) (i : Nat) : Prop := z.applies f = true ∧
      ∃ g, (remainingPath s f)[i]? = some g ∧ segmentEnters Config.guardMicrons z.box g.1 g.2 = true
    (zoneOccupant s z = none ↔ ∀ f, ¬inside f) ∧
    (∀ f, zoneOccupant s z = some f ↔ inside f ∧ ∀ g, g < f → ¬inside g) ∧
    (pathCut s z = none ↔ ∀ f i, ¬cuts f i) ∧
    ∀ f i, pathCut s z = some (f, i) ↔ cuts f i ∧ (∀ j, j < i → ¬cuts f j) ∧ ∀ g j, g < f → ¬cuts g j) ∧
  (∀ (s : State) (n : Nat) (f g : FlyerId), pairTooClose s n f g = true ↔
    f ≠ g ∧ g ∉ concernedFlyers s f ∧ (s.flyer f).located = true ∧ (s.flyer g).located = true ∧
      ∃ p q, ringOf s f = some p ∧ ringOf s g = some q ∧ (p.sub q).sq < (1000 * (n : Int)) * (1000 * (n : Int))) ∧
  (∀ (s : State) (f : FlyerId) (o : Vec3) (rig : Rig) (r : Run) (p : Vec3), FormationsSound s → (f, o) ∈ concerned s f →
    rigOf s (leaderOf s f) = some rig → (s.flyer (leaderOf s f)).run = some r →
    (s.flyer (leaderOf s f)).point = some p →
    let st := (s.flyer (leaderOf s f)).state
    let flies : Bool := match st with
      | .releasing => decide (r.pending = some .cue)
      | .cueRun _ | .holding | .held _ | .stopping _ => decide (r.kind = .path)
      | .undefined | .unready | .unlocated | .parked | .jogging | .faulted => false
    let first : List Vec3 := match st with
      | .releasing | .cueRun .dwelling | .cueRun .waiting | .held .dwelling | .held .waiting => []
      | _ => (r.seg.map fun g => roundPoint g.stop).toList
    let stack := r.stack.map fun e =>
      match e with
      | .ret c i => .ret c i
      | .rep c b n => .rep c b (min n 2)
    let later := (waypointsFrom s.dir Config.walkBound ⟨r.posCue, r.posRecord, stack⟩).map fun w =>
      mmToMicrons (readByKind rig.kind w)
    let points := (roundPoint p :: (first ++ later)).map fun v => (ringOfRounded rig v).add (mmToMicrons o)
    remainingPath s f = if flies = true then points.zip points.tail else []) ∧
  (∀ (s : State) (f : FlyerId), (s.flyer (leaderOf s f)).run = none → remainingPath s f = []) ∧
  ∀ (dir : List Cue) (fuel cue i : Nat) (st : List StackEntry),
    let out := waypointsFrom dir (fuel + 1) ⟨cue, i, st⟩
    match recordAt dir cue i with
    | some (.move m) => out = m.waypoint :: waypointsFrom dir fuel ⟨cue, i + 1, st⟩
    | some .wait | some (.mark _) => out = waypointsFrom dir fuel ⟨cue, i + 1, st⟩
    | some (.call n) => out = waypointsFrom dir fuel ⟨n, 0, .ret cue (i + 1) :: st⟩
    | some (.rep n) => out = waypointsFrom dir fuel ⟨cue, i + 1, .rep cue (i + 1) (min n 2) :: st⟩
    | some .endRep =>
      ∀ c b n rest, st = .rep c b n :: rest →
        out = waypointsFrom dir fuel (if 0 < n - 1 then ⟨c, b, .rep c b (n - 1) :: rest⟩ else ⟨cue, i + 1, rest⟩)
    | none =>
      (∀ c j rest, st = .ret c j :: rest → out = waypointsFrom dir fuel ⟨c, j, rest⟩) ∧ (st = [] → out = [])

/-- WRITE_SLOTS stages a table in the shadow and SWAP_SLOTS marks the swap, by their rows in order (R149, R150). Which
axis and port a refusal names where both staged axes stand in other active tables, the axis of slot 0 and its port, is
the model's choice, log entry 38. -/
def Obligations.SlotsAreStagedAndTheSwapIsMarked : Prop :=
  ∀ (q : Req) (p : PortId) (a b : Nat) (s : State), Taken q s →
    let u := arrived q s
    let c := Instr.writeSlots q p.val a b
    let e := Instr.swapSlots q p.val
    (∀ n, 6 ≤ n → Refused (.writeSlots q n a b) q 0x2C .badValue [] s u ∧
      Refused (.swapSlots q n) q 0x2D .badValue [] s u) ∧
    ((12 ≤ a ∧ a ≠ 255) ∨ (12 ≤ b ∧ b ≠ 255) ∨ (a = b ∧ a ≠ 255) → Refused c q 0x2C .badValue [] s u) ∧
    (∀ t, slotsOf a b = some t →
      (∀ x g, stagedElsewhere u p t = some (x, g) →
        Refused c q 0x2C .badValue [⟨.axis, x.val⟩, ⟨.port, g.val⟩] s u) ∧
      (stagedElsewhere u p t = none →
        (u.image = .saving → Refused c q 0x2C .busy [] s u) ∧
        (u.image ≠ .saving → Completed c q 0x2C s (u.setPort p { u.port p with shadow := t })))) ∧
    (u.image = .saving → Refused e q 0x2D .busy [] s u) ∧
    (u.image ≠ .saving → Completed e q 0x2D s (u.setPort p { u.port p with swap := true }))

/-! ## Cue store -/

/-- A segment that opens an upload or continues one, and does not complete it, is ACCEPTED: its records stand at the
end of the station's context (R68, R70, R71). -/
def Obligations.SegmentsAreCollectedInTheUpload : Prop :=
  ∀ (q : Req) (seg : SegmentFields) (k : RigKind) (s : State), Taken q s →
    rigKindNamed seg.kind = some k → 1 ≤ seg.num → seg.num ≤ 200 → 1 ≤ seg.total → seg.total ≤ 250 →
    seg.index ≤ 249 → 1 ≤ seg.recs.length → seg.recs.length ≤ 8 → seg.last = false →
    (∀ r ∈ seg.recs, recordInRange k r = true) →
    let u := arrived q s
    let opened := uploadLength (u.station q.st).upload
    (seg.first = true → seg.index = 0 → seg.recs.length ≤ seg.total →
      placesUsed u - opened + seg.recs.length ≤ 4096 →
      Answered (.cueSegment q seg) q 0x30 .accepted .empty s (u.setStation q.st { u.station q.st with
        upload := some { num := seg.num, total := seg.total, kind := k, next := 1, recs := seg.recs } })) ∧
    ∀ x, seg.first = false → (u.station q.st).upload = some x →
      x.num = seg.num → x.total = seg.total → x.kind = k → x.next = seg.index →
      x.recs.length + seg.recs.length ≤ x.total → placesUsed u + seg.recs.length ≤ 4096 →
      Answered (.cueSegment q seg) q 0x30 .accepted .empty s (u.setStation q.st { u.station q.st with
        upload := some { x with next := x.next + 1, recs := x.recs ++ seg.recs } })

/-- A LAST segment that brings the upload to its total, in balance, with room in the directory and its number in no
run's reach set, installs the cue in one step (R72, R73, R74). -/
def Obligations.CompletedUploadIsInstalled : Prop :=
  ∀ (q : Req) (seg : SegmentFields) (x : Upload) (s : State), Taken q s →
    let u := arrived q s
    rigKindNamed seg.kind = some x.kind → 1 ≤ seg.num → seg.num ≤ 200 → 1 ≤ seg.total → seg.total ≤ 250 →
    seg.index ≤ 249 → 1 ≤ seg.recs.length → seg.recs.length ≤ 8 → seg.last = true →
    (∀ r ∈ seg.recs, recordInRange x.kind r = true) →
    ((seg.first = true ∧ seg.index = 0 ∧ x.num = seg.num ∧ x.total = seg.total ∧ x.recs = [] ∧
        placesUsed u - uploadLength (u.station q.st).upload + seg.recs.length ≤ 4096) ∨
      (seg.first = false ∧ (u.station q.st).upload = some x ∧ x.num = seg.num ∧ x.total = seg.total ∧
        x.next = seg.index ∧ placesUsed u + seg.recs.length ≤ 4096)) →
    x.recs.length + seg.recs.length = x.total → unbalanced 0 [] (x.recs ++ seg.recs) = none →
    ((cueOf u.dir x.num).isSome = true ∨ u.dir.length < 128) → inReach u x.num = false →
    u.dir.Pairwise (fun c d => c.num < d.num) →
    ∃ D, Answered (.cueSegment q seg) q 0x30 .done (.replaced (cueOf u.dir x.num).isSome) s
        ({ u with dir := D }.setStation q.st { u.station q.st with upload := none }) ∧
      D.Pairwise (fun c d => c.num < d.num) ∧
      cueOf D x.num = some { num := x.num, kind := x.kind, recs := x.recs ++ seg.recs } ∧
      ∀ n, n ≠ x.num → cueOf D n = cueOf u.dir n

/-- Every refused CUE_SEGMENT leaves the sending station without an upload, and changes nothing else of the part (R67,
R75; a frame of the wrong length is refused so too, which is the model's reading, log entry 14); and the rows that
refuse a CUE_SEGMENT, in order, each with its result and the items it names (R68, R70 to R73; that the directory is
named with the value 0, and that a row that names nothing carries no item, are the model's choices, log entry 17). -/
def Obligations.RefusedSegmentRewindsTheUpload : Prop :=
  (∀ (q : Req) (seg : SegmentFields) (s : State), running s = true → (s.station q.st).queue.length < 4 →
    ∃ r b v, Answered (.cueSegment q seg) q 0x30 r b s v ∧
      (r.isRefusal = true → v = (arrived q s).setStation q.st { (arrived q s).station q.st with upload := none })) ∧
  ∀ (q : Req) (seg : SegmentFields) (s : State), Taken q s →
    let u := arrived q s
    let open_ := (u.station q.st).upload
    let refused (r : ResultCode) (items : List Item) : Prop :=
      Refused (.cueSegment q seg) q 0x30 r items s (u.setStation q.st { u.station q.st with upload := none })
    let taken (x : Upload) (free : Nat) : Prop :=
      let recs := x.recs ++ seg.recs
      (∀ before r after, seg.recs = before ++ r :: after → (∀ b ∈ before, recordInRange x.kind b = true) →
        recordInRange x.kind r = false → refused .badValue [⟨.recordIndex, x.recs.length + before.length⟩]) ∧
      ((∀ r ∈ seg.recs, recordInRange x.kind r = true) →
        (free < seg.recs.length → refused .storeFull [⟨.poolFree, free⟩]) ∧
        (seg.recs.length ≤ free → seg.last = true →
          (recs.length ≠ x.total → refused .uploadMismatch [⟨.recordsSoFar, recs.length⟩, ⟨.recordTotal, x.total⟩]) ∧
          (recs.length = x.total →
            (∀ i, unbalanced 0 [] recs = some i → refused .badValue [⟨.recordIndex, i⟩]) ∧
            (unbalanced 0 [] recs = none →
              (cueOf u.dir x.num = none → 128 ≤ u.dir.length → refused .storeFull [⟨.directory, 0⟩]) ∧
              ((cueOf u.dir x.num).isSome = true ∨ u.dir.length < 128 → inReach u x.num = true →
                refused .inUse [⟨.cue, x.num⟩])))))
    (rigKindNamed seg.kind = none ∨ seg.num = 0 ∨ 200 < seg.num ∨ seg.total = 0 ∨ 250 < seg.total ∨ 249 < seg.index ∨
      seg.recs = [] ∨ 8 < seg.recs.length → refused .badValue []) ∧
    ∀ k, rigKindNamed seg.kind = some k → 1 ≤ seg.num → seg.num ≤ 200 → 1 ≤ seg.total → seg.total ≤ 250 →
      seg.index ≤ 249 → 1 ≤ seg.recs.length → seg.recs.length ≤ 8 →
      (seg.first = true →
        (seg.index ≠ 0 → refused .uploadOrder [⟨.expectedIndex, 0⟩]) ∧
        (seg.index = 0 →
          (seg.total < seg.recs.length → refused .uploadMismatch []) ∧
          (seg.recs.length ≤ seg.total →
            taken { num := seg.num, total := seg.total, kind := k, next := 0, recs := [] }
              (4096 - (placesUsed u - uploadLength open_))))) ∧
      (seg.first = false →
        (open_ = none → refused .uploadOrder []) ∧
        ∀ x, open_ = some x →
          (x.num ≠ seg.num ∨ x.total ≠ seg.total ∨ x.kind ≠ k → refused .uploadMismatch []) ∧
          (x.num = seg.num → x.total = seg.total → x.kind = k →
            (seg.index ≠ x.next → refused .uploadOrder [⟨.expectedIndex, x.next⟩]) ∧
            (seg.index = x.next →
              (x.total < x.recs.length + seg.recs.length → refused .uploadMismatch []) ∧
              (x.recs.length + seg.recs.length ≤ x.total → taken x (4096 - placesUsed u)))))

/-- DELETE_CUE, by its rows in order (R78). -/
def Obligations.DeleteCueRemovesAnUnusedCue : Prop :=
  ∀ (q : Req) (n : Nat) (s : State), Taken q s →
    let u := arrived q s
    (n = 0 ∨ 200 < n → Refused (.deleteCue q n) q 0x31 .badValue [] s u) ∧
    (1 ≤ n → n ≤ 200 → cueOf u.dir n = none → Refused (.deleteCue q n) q 0x31 .noCue [] s u) ∧
    (1 ≤ n → n ≤ 200 → cueOf u.dir n ≠ none → inReach u n = true →
      Refused (.deleteCue q n) q 0x31 .inUse [] s u) ∧
    (1 ≤ n → n ≤ 200 → cueOf u.dir n ≠ none → inReach u n = false → ∃ D,
      Completed (.deleteCue q n) q 0x31 s { u with dir := D } ∧ cueOf D n = none ∧
        ∀ m, m ≠ n → cueOf D m = cueOf u.dir m)

/-! ## Runs -/

/-- What the shared changes of state do to every flyer concerned: a state given to a list of flyers; a run ended; the
entry into RELEASING, with the members engaged at the counts of each flyer's point; the completed release, by the
pending start; and a run of the record interpreter, by what ends it (R26, R34, R37, R38, R45, R99, R100, R106, R107;
that the brake release count reads 0 once the release is complete, and that a run ends in PARKED without a further
test, are the model's readings, log entry 31). -/
def Obligations.StateChangesActOnEveryFlyerConcerned : Prop :=
  (∀ (fs : List FlyerId) (st : FlyerState) (s : State),
    let t := setStates fs st s
    (∃ F, t = { s with flyers := F }) ∧
    ∀ g, t.flyer g = if g ∈ fs then { s.flyer g with state := st } else s.flyer g) ∧
  (∀ (f : FlyerId) (st : FlyerState) (s : State),
    let t := leaveRun f st s
    (∃ A F, t = { s with axes := A, flyers := F }) ∧
    (∀ g, t.flyer g =
      if g ∈ concernedFlyers s f then { s.flyer g with state := st, run := none } else s.flyer g) ∧
    ∀ a, t.axis a =
      if (∃ g ∈ concernedFlyers s f, a ∈ membersOf s g) ∧ (s.axis a).state = .engaged then
        { s.axis a with state := .ready, committed := none }
      else s.axis a) ∧
  (∀ (f : FlyerId) (r : Run) (s : State), FormationsSound s → MembersApart s →
    let fs := concernedFlyers s f
    let t := enterReleasing f r s
    (∃ A F, t = { s with axes := A, flyers := F }) ∧
    (∀ h, t.flyer h =
      if h ∈ fs then { s.flyer h with state := .releasing, run := if h = f then some r else (s.flyer h).run }
      else s.flyer h) ∧
    (∀ h ∈ fs, ∀ g p, rigOf s h = some g → (s.flyer h).point = some p → ∀ l ∈ lineLengths g p, t.axis l.1 =
      { s.axis l.1 with
        state := .engaged, slack := 0, committed := some l.2.2, outgoing := countsOf l.2.1 l.2.2 }) ∧
    ∀ a, (∀ h ∈ fs, ∀ g, rigOf s h = some g → a ∉ (g.lines.map fun l => l.1)) → t.axis a = s.axis a) ∧
  (∀ (f : FlyerId) (r : Run) (s : State), (s.flyer f).run = some r →
    let fs := concernedFlyers s f
    ∃ F,
      let v : State := { s with flyers := F }
      (r.pending = some .jog → completeRelease f s = v ∧ ∀ h, v.flyer h =
        if h ∈ fs then
          { s.flyer h with
            state := .jogging
            run := if h = f then some { r with pending := none, brake := 0, jogV := Vec3.zero } else (s.flyer h).run }
        else s.flyer h) ∧
      (r.pending = some .cue → completeRelease f s = runInterpreter f v ∧ ∀ h, v.flyer h =
        if h ∈ fs then
          { s.flyer h with
            state := .cueRun .moving
            run := if h = f then some { r with pending := none, brake := 0, v := 0 } else (s.flyer h).run }
        else s.flyer h)) ∧
  ∀ (f : FlyerId) (r : Run) (p : Vec3) (s : State), FormationsSound s → (s.flyer f).run = some r →
    (s.flyer f).point = some p →
    let fs := concernedFlyers s f
    let out := interpret s.dir Config.walkBound ⟨r.posCue, r.posRecord, r.stack⟩ none 0
    let t := runInterpreter f s
    let moved : Run := { r with posCue := out.pos.cue, posRecord := out.pos.record, stack := out.pos.stack }
    let marked (h : FlyerId) : Flyer :=
      { s.flyer h with
        mark := out.lastMark.getD (s.flyer h).mark, markCount := ((s.flyer h).markCount + out.marks) % 65536 }
    (∀ m c i, out.stop = .move m c i → (∃ F, t = { s with flyers := F }) ∧ ∀ h, t.flyer h =
      if h ∈ fs then
        { marked h with
          state := .cueRun .moving
          run := if h = f then some { moved with seg := some (segmentOf s.dir (limitsOf s f).vp p m c i), d := 0, v := 0 }
            else (s.flyer h).run }
      else s.flyer h) ∧
    (out.stop = .wait → (∃ F, t = { s with flyers := F }) ∧ ∀ h, t.flyer h =
      if h ∈ fs then
        { marked h with
          state := .cueRun .waiting, run := if h = f then some { moved with v := 0 } else (s.flyer h).run }
      else s.flyer h) ∧
    (out.stop = .runEnd → (∃ A F, t = { s with axes := A, flyers := F }) ∧
      (∀ h, t.flyer h = if h ∈ fs then { marked h with state := .parked, run := none } else s.flyer h) ∧
      ∀ a, t.axis a =
        if (∃ h ∈ fs, a ∈ membersOf s h) ∧ (s.axis a).state = .engaged then
          { s.axis a with state := .ready, committed := none }
        else s.axis a)

/-- START_CUE, past the checks of a motion request: every flyer concerned must be PARKED, the pre-flight check must
pass, and the flyer enters RELEASING with a new run context, which it leaves at once where every brake is already
reported released (R37, R82, R91, R92). That the run's progress and dwell count, before its first segment, and its jog
part begin at 0 is the model's choice (log entry 42). -/
def Obligations.StartCueCreatesTheRun : Prop :=
  ∀ (q : Req) (f : FlyerId) (cue : Nat) (s : State), Taken q s → 1 ≤ cue → cue ≤ 200 →
    let u := arrived q s
    let c := Instr.startCue q f.val cue
    MotionOpen q f true u →
    (∀ g before after, concernedFlyers u f = before ++ g :: after →
      (∀ h ∈ before, (u.flyer h).state = .parked) → ∀ r, startable (u.flyer g).state = some r →
      Refused c q 0x40 r [] s u) ∧
    ((∀ g ∈ concernedFlyers u f, (u.flyer g).state = .parked) → ∀ k, kindOf u f = some k →
      (∀ r, preflight u f k cue = .error r → Answered c q 0x40 .preflight (.report r) s u) ∧
      ∀ reach, preflight u f k cue = .ok reach →
        let run : Run :=
          { pending := some .cue, kind := .path, cue := some cue, reach := reach, posCue := cue, posRecord := 0,
            stack := [], seg := none, d := 0, v := 0, dwell := 0, brake := frames 1000 u.t, jogReq := Vec3.zero,
            jogValid := 0, jogV := Vec3.zero }
        let v := enterReleasing f run u
        (brakesReleased u f = false → Completed c q 0x40 s v) ∧
        (brakesReleased u f = true → Completed c q 0x40 s (completeRelease f v)))

/-- A cue that the pre-flight check accepts: its reach set holds the started cue and at most five numbers, each present;
and the start point of every flyer concerned, every waypoint, the segment from the current point into the first waypoint
and every segment between two waypoints pass their tests, and every member's feedback stands within its following-error
limit of the point (R84, R85, R87, R88, R90). -/
def Obligations.PreflightAcceptsOnlyWhatPassesEveryTest : Prop :=
  ∀ (s : State) (f : FlyerId) (k : RigKind) (cue : Nat) (reach : List Nat), preflight s f k cue = .ok reach →
    cue ∈ reach ∧ reach.length ≤ 5 ∧ (∀ n ∈ reach, (cueOf s.dir n).isSome = true) ∧
    ∃ e, expandCue s.dir k cue = (e, none) ∧ e.reach = reach ∧ e.moves.length ≤ 1024 ∧
      ∀ g ∈ concerned s f, ∀ r, rigOf s g.1 = some r →
        (∀ p, (s.flyer g.1).point = some p →
          pointFailure s.zones g.1 r p = none ∧
          ∀ l ∈ lineLengths r p, ∃ fb, (s.axis l.1).feedback = some fb ∧
            (countsOf l.2.1 l.2.2 - fb.counts).natAbs ≤ l.2.1.feLimit) ∧
        (∀ m ∈ e.moves,
          pointFailure s.zones g.1 r (mmToNano (readByKind r.kind (m.waypoint.add g.2))) = none) ∧
        (∀ p, (s.flyer f).point = some p → ∀ m rest, e.moves.reverse = m :: rest →
          segmentFailure s.zones g.1 r ((roundPoint p).add (mmToMicrons g.2))
            (mmToMicrons (readByKind r.kind (m.waypoint.add g.2))) = none) ∧
        ∀ before m n after, e.moves.reverse = before ++ m :: n :: after →
          segmentFailure s.zones g.1 r
            ((mmToMicrons (readByKind k m.waypoint)).add (mmToMicrons g.2))
            (mmToMicrons (readByKind r.kind (n.waypoint.add g.2))) = none

/-- HOLD, RESUME and STOP_FLYER, past the checks of a motion request, by the flyer's state (R39, R42, R121, R122,
R135). -/
def Obligations.HoldResumeAndStopActByFlyerState : Prop :=
  ∀ (q : Req) (f : FlyerId) (s : State), Taken q s →
    let u := arrived q s
    let fs := concernedFlyers u f
    (MotionOpen q f false u →
      (match (u.flyer f).state with
      | .cueRun .moving => Completed (.hold q f.val) q 0x41 s (setStates fs .holding u)
      | .cueRun .dwelling => Completed (.hold q f.val) q 0x41 s (setStates fs (.held .dwelling) u)
      | .cueRun .waiting => Completed (.hold q f.val) q 0x41 s (setStates fs (.held .waiting) u)
      | .holding | .held _ => Completed (.hold q f.val) q 0x41 s u
      | .undefined | .unready | .unlocated | .parked | .releasing | .jogging | .stopping _ | .faulted =>
        Refused (.hold q f.val) q 0x41 .busy [] s u) ∧
      (match (u.flyer f).state with
      | .releasing | .held _ => Completed (.stopFlyer q f.val) q 0x44 s (leaveRun f .parked u)
      | .cueRun _ | .holding | .jogging =>
        Completed (.stopFlyer q f.val) q 0x44 s (setStates fs (.stopping .request) u)
      | .undefined | .unready | .unlocated | .parked | .stopping _ | .faulted =>
        Completed (.stopFlyer q f.val) q 0x44 s u)) ∧
    (MotionOpen q f true u →
      match (u.flyer f).state with
      | .held p =>
        Completed (.resume q f.val) q 0x42 s (setStates fs (.cueRun p)
          (u.setFlyer f { u.flyer f with run := (u.flyer f).run.map fun r => { r with v := 0 } }))
      | .undefined | .unready | .unlocated | .parked | .releasing | .cueRun _ | .holding | .jogging | .stopping _
      | .faulted => Refused (.resume q f.val) q 0x42 .busy [] s u)

/-- GO, past the checks of a motion request: in WAITING the interpreter runs on, for a formation on its leader, where
StateChangesActOnEveryFlyerConcerned says what that does to every member; in every other state GO is refused BUSY (R45,
R105). On a flyer of no formation the run on to a MOVE, a WAIT or the end of the run is written out (R100, R102, R106,
R107). -/
def Obligations.GoRunsTheInterpreterOn : Prop :=
  ∀ (q : Req) (f : FlyerId) (s : State), Taken q s →
    let u := arrived q s
    let x := u.flyer f
    MotionOpen q f true u →
    (x.state ≠ .cueRun .waiting → Refused (.go q f.val) q 0x43 .busy [] s u) ∧
    (x.state = .cueRun .waiting → Completed (.go q f.val) q 0x43 s (runInterpreter f u)) ∧
    (x.state = .cueRun .waiting → Alone u f → ∀ r p, x.run = some r → x.point = some p →
      let out := interpret u.dir Config.walkBound ⟨r.posCue, r.posRecord, r.stack⟩ none 0
      let y : Flyer :=
        { x with mark := out.lastMark.getD x.mark, markCount := (x.markCount + out.marks) % 65536 }
      let moved : Run := { r with posCue := out.pos.cue, posRecord := out.pos.record, stack := out.pos.stack }
      (∀ m c i, out.stop = .move m c i →
        Completed (.go q f.val) q 0x43 s (u.setFlyer f { y with
          state := .cueRun .moving
          run := some { moved with seg := some (segmentOf u.dir (limitsOf u f).vp p m c i), d := 0, v := 0 } })) ∧
      (out.stop = .wait →
        Completed (.go q f.val) q 0x43 s (u.setFlyer f { y with
          state := .cueRun .waiting, run := some { moved with v := 0 } })) ∧
      (out.stop = .runEnd → ∃ A,
        let v : State := { u.setFlyer f { y with state := .parked, run := none } with axes := A }
        Completed (.go q f.val) q 0x43 s v ∧
        ∀ a, v.axis a =
          if a ∈ membersOf u f ∧ (u.axis a).state = .engaged then
            { u.axis a with state := .ready, committed := none }
          else u.axis a))

/-- The interpreter acts on the record it stands at, record by record: MOVE and WAIT end its run, MARK is counted, CALL
and REPEAT push, END_REPEAT lowers or pops, and the end of a cue pops a return entry or ends the run (R100, R101). -/
def Obligations.InterpreterActsOnEachRecord : Prop :=
  ∀ (dir : List Cue) (fuel cue i : Nat) (st : List StackEntry) (lm : Option Nat) (k : Nat),
    let out := interpret dir (fuel + 1) ⟨cue, i, st⟩ lm k
    match recordAt dir cue i with
    | some (.move m) => out = ⟨⟨cue, i + 1, st⟩, lm, k, .move m cue i⟩
    | some .wait => out = ⟨⟨cue, i + 1, st⟩, lm, k, .wait⟩
    | some (.mark n) => out = interpret dir fuel ⟨cue, i + 1, st⟩ (some n) (k + 1)
    | some (.call n) => out = interpret dir fuel ⟨n, 0, .ret cue (i + 1) :: st⟩ lm k
    | some (.rep n) => out = interpret dir fuel ⟨cue, i + 1, .rep cue (i + 1) n :: st⟩ lm k
    | some .endRep =>
      ∀ c b n rest, st = .rep c b n :: rest →
        out = interpret dir fuel (if 0 < n - 1 then ⟨c, b, .rep c b (n - 1) :: rest⟩ else ⟨cue, i + 1, rest⟩) lm k
    | none =>
      (∀ c j rest, st = .ret c j :: rest → out = interpret dir fuel ⟨c, j, rest⟩ lm k) ∧
      (st = [] → out = ⟨⟨cue, i, st⟩, lm, k, .runEnd⟩)

/-- JOG, past the checks of a motion request: in JOGGING a new requested velocity and validity count; otherwise every
flyer concerned must be PARKED and pass the engagement check, and the flyer enters RELEASING (R125). That the new run has
no started cue and an empty reach set, and its PATH part at 0, is the model's choice (log entry 42). -/
def Obligations.JogSetsTheRequestOrStartsARun : Prop :=
  ∀ (q : Req) (f : FlyerId) (w : Vec3) (k : RigKind) (s : State), Taken q s →
    let u := arrived q s
    let c := Instr.jog q f.val w
    MotionOpen q f true u → kindOf u f = some k →
    let req := requestedVelocity k (limitsOf u f).vp w
    ((u.flyer f).state = .jogging →
      Completed c q 0x45 s (u.setFlyer f { u.flyer f with
        run := (u.flyer f).run.map fun r => { r with jogReq := req, jogValid := frames 200 u.t } })) ∧
    ((u.flyer f).state ≠ .jogging →
      (∀ g before after, concernedFlyers u f = before ++ g :: after →
        (∀ h ∈ before, (u.flyer h).state = .parked) → ∀ r, startable (u.flyer g).state = some r →
        Refused c q 0x45 r [] s u) ∧
      ((∀ g ∈ concernedFlyers u f, (u.flyer g).state = .parked) →
        (∀ r, engagementFailure u (concerned u f) = some r → Answered c q 0x45 .preflight (.report r) s u) ∧
        (engagementFailure u (concerned u f) = none →
          let run : Run :=
            { pending := some .jog, kind := .jog, cue := none, reach := [], posCue := 0, posRecord := 0, stack := [],
              seg := none, d := 0, v := 0, dwell := 0, brake := frames 1000 u.t, jogReq := req,
              jogValid := frames 200 u.t, jogV := Vec3.zero }
          let v := enterReleasing f run u
          (brakesReleased u f = false → Completed c q 0x45 s v) ∧
          (brakesReleased u f = true → Completed c q 0x45 s (completeRelease f v)))))

/-- The requested velocity of a JOG: its unused components 0, each other one clamped to ±Vp and taken into µm/s, and the
vector scaled back to Vp where its magnitude exceeds it, so that a request within Vp is taken as it is and no result
exceeds Vp (R126). And the velocity of a jog's frame: the last one brought toward the requested velocity by Ap·T at most, or
in STOPPING toward zero by Astop·T at most, and held to Vp (R128). -/
def Obligations.RequestedVelocityIsHeldToVp : Prop :=
  let held (vp : Nat) (v : Vec3) : Vec3 :=
    if 1000 * (vp : Int) < magnitude v then v.map fun c => towardZero (c * (1000 * vp)) (magnitude v) else v
  let toward (vp : Nat) (limit : Int) (v target : Vec3) : Vec3 :=
    let delta := target.sub v
    held vp (v.add (if limit < magnitude delta then delta.map fun c => towardZero (c * limit) (magnitude delta) else delta))
  (∀ (k : RigKind) (vp : Nat) (w : Vec3),
    let v := requestedVelocity k vp w
    let c := (readByKind k w).map fun x => 1000 * max (-(vp : Int)) (min (vp : Int) x)
    v = held vp c ∧
      v.x.natAbs ≤ 1000 * vp ∧ v.y.natAbs ≤ 1000 * vp ∧ v.z.natAbs ≤ 1000 * vp ∧ magnitude v ≤ 1000 * (vp : Int) ∧
      (k = .vertical → v.x = 0 ∧ v.y = 0) ∧ (k = .planar → v.y = 0) ∧
      (w.x.natAbs ≤ vp → w.y.natAbs ≤ vp → w.z.natAbs ≤ vp → magnitude ((readByKind k w).scale 1000) ≤ 1000 * (vp : Int) →
        v = (readByKind k w).scale 1000)) ∧
  ∀ (lim : Limits) (t : Nat) (r : Run) (why : StopReason),
    jogVelocity .jogging lim t r = toward lim.vp (lim.ap * t : Nat) r.jogV r.jogReq ∧
    jogVelocity (.stopping why) lim t r = toward lim.vp (lim.astop * t : Nat) r.jogV Vec3.zero ∧
    magnitude (jogVelocity .jogging lim t r) ≤ 1000 * (lim.vp : Int) ∧
    magnitude (jogVelocity (.stopping why) lim t r) ≤ 1000 * (lim.vp : Int)


/-! ## All-stop, faults and clearing -/

/-- What a source of all-stop does: a log entry while all-stop is active, and otherwise also the source, the cut-off
count and the outcome of every flyer by its state (R162, R163, R165, R167; that each member of a formation takes the
outcome of its own state, which in a run is its leader's, is the model's reading, log entry 33). -/
def Obligations.AllStopActsOnEveryFlyer : Prop :=
  ∀ (c : Cause) (s : State),
    let t := raiseAllStop c s
    let leaves : FlyerState → Bool
      | .releasing | .held _ => true
      | _ => false
    t.log = logAfter s.logMode s.log
      { time := s.clock, code := c.code, cls := .allStop, flyer := none, axis := c.axis, station := c.station,
        port := none, detail := c.detail } ∧
    (s.allStop ≠ none → t = { s with log := t.log }) ∧
    (s.allStop = none →
      t = { s with log := t.log, allStop := some c, cutCount := frames s.cutoff s.t, axes := t.axes,
                   flyers := t.flyers } ∧
      (∀ f, t.flyer f =
        match (s.flyer f).state with
        | .releasing | .held _ =>
          { s.flyer f with
            state := .faulted
            run := none
            cause := (s.flyer f).cause.or (some c)
            point := if (s.flyer f).located then (s.flyer f).point else none }
        | .cueRun _ | .holding | .jogging | .stopping _ =>
          { s.flyer f with state := .stopping .allStop, cause := (s.flyer f).cause.or (some c) }
        | .undefined | .unready | .unlocated | .parked | .faulted => s.flyer f) ∧
      ∀ a, t.axis a =
        if (s.axis a).state = .engaged ∧ ∃ f, a ∈ membersOf s f ∧ leaves (s.flyer f).state = true then
          { s.axis a with state := .ready, committed := none }
        else s.axis a)

/-- STOP_ALL, RELEASE_ALL_STOP by its rows in order, and the two edges of the stop chain input; an input that is open
does not open again, and during start-up only its level is kept, which are the model's readings (R162, R166, R167; log
entry 3). -/
def Obligations.AllStopRequestsAndTheStopChain : Prop :=
  (∀ (q : Req) (s : State), Taken q s →
    let u := arrived q s
    let c := Instr.releaseAllStop q
    Completed (.stopAll q) q 0x50 s
      (raiseAllStop { code := .stationStop, axis := none, station := some q.st, detail := .none } u) ∧
    (u.allStop = none → Completed c q 0x51 s u) ∧
    (u.allStop ≠ none →
      ((∃ f r, (u.flyer f).state = .stopping r) → Refused c q 0x51 .busy [] s u) ∧
      ((∀ f r, (u.flyer f).state ≠ .stopping r) →
        (u.chainOpen = true → Refused c q 0x51 .allStop [] s u) ∧
        (u.chainOpen = false → Completed c q 0x51 s { u with allStop := none, cutCount := 0 })))) ∧
  ∀ s : State,
    (s.chainOpen = false → running s = true →
      exec .estopChain s = .next (finish (raiseAllStop
        { code := .estopChain, axis := none, station := none, detail := .none } { s with chainOpen := true }))) ∧
    (s.chainOpen = false → running s = false → exec .estopChain s = .next { s with chainOpen := true }) ∧
    (s.chainOpen = true → exec .estopChain s = .next s) ∧
    exec .stopChainClosed s = .next { s with chainOpen := false }

/-- RAISE_ALARM by its number, class and flyer: refused, logged, a controlled stop of the flyer named, or all-stop
(R168, R202). -/
def Obligations.RaiseAlarmActsByItsClass : Prop :=
  ∀ (q : Req) (number cls flyer : Nat) (s : State), Taken q s →
    let u := arrived q s
    let c := Instr.raiseAlarm q number cls flyer
    let e : Cause := { code := .stationAlarm, axis := none, station := some q.st, detail := .number number }
    (number = 0 ∨ 99 < number ∨ cls = 2 ∨ 3 < cls ∨ (cls = 1 ∧ 3 < flyer) → Refused c q 0x52 .badValue [] s u) ∧
    (1 ≤ number → number ≤ 99 →
      (cls = 0 → Completed c q 0x52 s { u with
        log := logAfter u.logMode u.log
          { time := u.clock, code := .stationAlarm, cls := .note, flyer := none, axis := none, station := some q.st,
            port := none, detail := .number number } }) ∧
      (cls = 1 → ∀ f : FlyerId, flyer = f.val →
        ((u.flyer f).state = .undefined → Refused c q 0x52 .notReady [] s u) ∧
        ((u.flyer f).state ≠ .undefined → Completed c q 0x52 s (takeFault false .flyerStop e f u))) ∧
      (cls = 3 → Completed c q 0x52 s (raiseAllStop e u)))

/-- What a fault does to the flyer it is found on, by class and state, and to the other members of its formation, which
take it as MEMBER_STOP: the records, the axes released and the log. `via` tells a fault that comes through an axis,
which takes a flyer at rest outside a run to UNREADY and through the readiness rule (R28, R157 to R161). That the other
members of a formation at rest take the same outcome, that a dead stop in RELEASING leaves no frozen point, and that a
FAULTED flyer can still lose its located flag are the model's readings (log entries 15, 23, 39). -/
def Obligations.FaultsActByClassAndState : Prop :=
  ∀ (via : Bool) (cls : FaultClass) (c : Cause) (f : FlyerId) (s : State), cls = .flyerStop ∨ cls = .flyerDead →
    FormationsSound s → MembersApart s →
    let t := takeFault via cls c f s
    let m : Cause := { code := .memberStop, axis := none, station := none, detail := .member f c.code }
    let acts : Bool := match (s.flyer f).state with
      | .undefined | .faulted => false
      | .stopping .fault | .stopping .allStop => decide (cls = .flyerDead)
      | .unready | .unlocated | .parked | .releasing | .cueRun _ | .holding | .held _ | .jogging
      | .stopping .request => true
    let others := if acts then (concernedFlyers s f).filter (fun g => g != f) else []
    let outcome (g : FlyerId) (d : Cause) : Flyer :=
      let x := if c.code.clearsLocated then dropLocated (s.flyer g) else s.flyer g
      let cause := x.cause.or (some d)
      let rested : Flyer :=
        { x with state := .faulted, run := none, cause := cause, point := if x.located then x.point else none }
      let dead : Flyer := { x with state := .faulted, run := none, cause := cause, frozen := true }
      match (s.flyer g).state with
      | .undefined | .faulted => x
      | .unready | .unlocated | .parked =>
        if via then { x with state := readyState (membersReady s g) x.located .unready } else rested
      | .releasing => rested
      | .held _ => if cls = .flyerDead then dead else rested
      | .cueRun _ | .holding | .jogging | .stopping .request =>
        if cls = .flyerDead then dead else { x with state := .stopping .fault, cause := cause }
      | .stopping .fault | .stopping .allStop => if cls = .flyerDead then dead else x
    let releases (g : FlyerId) : Bool :=
      match (s.flyer g).state with
      | .unready | .unlocated | .parked => !via
      | .releasing => true
      | .held _ => decide (cls = .flyerStop)
      | .undefined | .cueRun _ | .holding | .jogging | .stopping _ | .faulted => false
    t = { s with axes := t.axes, flyers := t.flyers, log := t.log } ∧
    t.flyer f = outcome f c ∧
    (∀ g ∈ others, t.flyer g = outcome g m) ∧
    (∀ g, g ≠ f → g ∉ others → t.flyer g = s.flyer g) ∧
    (∀ a, t.axis a =
      if (s.axis a).state = .engaged ∧ ∃ g, (g = f ∨ g ∈ others) ∧ a ∈ membersOf s g ∧ releases g = true then
        { s.axis a with state := .ready, committed := none }
      else s.axis a) ∧
    t.log = (((f, c) :: others.map fun g => (g, m)).foldl (fun l e => logAfter s.logMode l
      { time := s.clock, code := e.2.code, cls := cls, flyer := some e.1, axis := e.2.axis, station := e.2.station,
        port := none, detail := e.2.detail }) s.log)

/-- An axis fault: FAULTED with its cause, no slack count and no committed length, and then the fault on its flyer; on
an axis that is already FAULTED the entry alone (R27, R28, R147). -/
def Obligations.AxisFaultsReachTheirFlyer : Prop :=
  ∀ (code : FaultCode) (d : Detail) (a : AxisId) (s : State),
    let t := axisFault code d a s
    let c : Cause := { code := code, axis := some a, station := none, detail := d }
    let x := s.axis a
    let u := s.setAxis a { x with state := .faulted, cause := some code, slack := 0, committed := none }
    (x.state = .faulted → t = { s with
      log := logAfter s.logMode s.log ⟨s.clock, code, code.cls, flyerOfAxis s a, some a, none, none, d⟩ }) ∧
    (x.state ≠ .faulted → flyerOfAxis s a = none →
      t = { u with log := logAfter s.logMode s.log ⟨s.clock, code, code.cls, none, some a, none, none, d⟩ }) ∧
    ∀ f, x.state ≠ .faulted → flyerOfAxis s a = some f →
      t = takeFault true code.cls c f u ∧ t.axis a = u.axis a

/-- CLEAR_FAULT by its checks in order and its effect on every flyer concerned, and CLEAR_AXIS by its rows in order
(R29, R41, R170, R171). -/
def Obligations.ClearFaultAndClearAxisActInOrder : Prop :=
  (∀ (q : Req) (f : FlyerId) (s : State), Taken q s →
    let u := arrived q s
    let c := Instr.clearFault q f.val
    let fs := concernedFlyers u f
    let clears (x : FlyerState) : Prop := x = .faulted ∨ x = .unready
    (∀ n, 4 ≤ n → Refused (.clearFault q n) q 0x53 .badValue [] s u) ∧
    if (u.flyer f).state = .undefined then Refused c q 0x53 .notReady [] s u
    else if (u.grant f).owner ≠ some q.st then Refused c q 0x53 .notOwner [] s u
    else if u.allStop ≠ none then Refused c q 0x53 .allStop [] s u
    else if isFollower u f = true then Refused c q 0x53 .busy [] s u
    else
      (∀ g before after, fs = before ++ g :: after → (∀ h ∈ before, clears (u.flyer h).state) →
        ¬clears (u.flyer g).state → Refused c q 0x53 .busy [⟨.flyer, g.val⟩] s u) ∧
      ((∀ g ∈ fs, clears (u.flyer g).state) →
        let stays (a : AxisId) : Prop := (u.axis a).state = .faulted ∧ faultGone u a = false
        (∀ a before after, fs.flatMap (membersOf u) = before ++ a :: after → (∀ b ∈ before, ¬stays b) → stays a →
          Refused c q 0x53 .notReady [⟨.axis, a.val⟩] s u) ∧
        ((∀ g ∈ fs, ∀ a ∈ membersOf u g, ¬stays a) → FormationsSound u → MembersApart u → ∃ A F,
          let v : State := { u with axes := A, flyers := F }
          Completed c q 0x53 s v ∧
          (∀ g, g ∉ fs → v.flyer g = u.flyer g) ∧
          (∀ g ∈ fs,
            let x := u.flyer g
            let ready := (membersOf u g).all fun a => decide ((v.axis a).state = .ready)
            v.flyer g =
              if x.state = .faulted then
                { x with
                  state := readyState ready x.located .unready
                  cause := none
                  frozen := false
                  point := if x.located then x.point else none }
              else { x with state := readyState ready x.located .unready }) ∧
          (∀ a, (∀ g ∈ fs, a ∉ membersOf u g) → v.axis a = u.axis a) ∧
          ∀ g ∈ fs, ∀ a ∈ membersOf u g,
            v.axis a =
              if (u.axis a).state = .faulted then { u.axis a with state := .ready, cause := none, slack := 0 }
              else if (u.axis a).state = .engaged ∧ (u.flyer g).state = .faulted then
                { u.axis a with state := .ready, committed := none }
              else u.axis a))) ∧
  ∀ (q : Req) (a : AxisId) (s : State), Taken q s →
    let u := arrived q s
    let c := Instr.clearAxis q a.val
    (∀ n, 12 ≤ n → Refused (.clearAxis q n) q 0x54 .badValue [] s u) ∧
    if ∃ f, a ∈ membersOf u f then Refused c q 0x54 .busy [] s u
    else if u.allStop ≠ none then Refused c q 0x54 .allStop [] s u
    else if (u.axis a).state ≠ .faulted then Completed c q 0x54 s u
    else if faultGone u a = false then Refused c q 0x54 .notReady [⟨.axis, a.val⟩] s u
    else Completed c q 0x54 s (u.setAxis a { u.axis a with state := .ready, cause := none, slack := 0 })

/-! ## The log, the timing and the image -/

/-- The fault log by its mode, and the requests that set the mode and clear the log (R172, R173). -/
def Obligations.TheLogKeepsEntriesByItsMode : Prop :=
  (∀ (l : List LogEntry) (e : LogEntry),
    (l.length < 24 → logAfter .newest l e = l ++ [e] ∧ logAfter .first l e = l ++ [e]) ∧
    (24 ≤ l.length → logAfter .newest l e = l.drop 1 ++ [e] ∧ logAfter .first l e = l) ∧
    logAfter .off l e = l) ∧
  ∀ (q : Req) (n : Nat) (s : State), Taken q s →
    let u := arrived q s
    let c := Instr.setLogMode q n
    (2 < n → Refused c q 0x55 .badValue [] s u) ∧
    (n ≤ 2 →
      (u.image = .saving → Refused c q 0x55 .busy [] s u) ∧
      (u.image ≠ .saving →
        (n = 0 → Completed c q 0x55 s { u with logMode := .newest }) ∧
        (n = 1 → Completed c q 0x55 s { u with logMode := .first }) ∧
        (n = 2 → Completed c q 0x55 s { u with logMode := .off }))) ∧
    Completed (.clearLog q) q 0x56 s { u with log := [] }

/-- SET_TIMING sets the configured T and the cut-off and leaves T in force; SAVE_CONFIG begins a save of the image as it
stands, with the area blank from then on, which is the model's reading (R196, R197; log entry 11). -/
def Obligations.TimingIsSetAndASaveBegins : Prop :=
  ∀ (q : Req) (n m : Nat) (s : State), Taken q s →
    let u := arrived q s
    let c := Instr.setTiming q n m
    let e := Instr.saveConfig q
    let inRange : Prop := (n = 2 ∨ n = 4 ∨ n = 8) ∧ 500 ≤ m ∧ m ≤ 3000 ∧ m % 100 = 0
    (¬inRange → Refused c q 0x57 .badValue [] s u) ∧
    (inRange → u.image = .saving → Refused c q 0x57 .busy [] s u) ∧
    (inRange → u.image ≠ .saving → Completed c q 0x57 s { u with cfgT := n, cutoff := m }) ∧
    (u.image = .saving → Refused e q 0x60 .busy [] s u) ∧
    (u.image ≠ .saving →
      (∀ f : FlyerId, (u.flyer f).state.inRun = true → (∀ g, g < f → (u.flyer g).state.inRun = false) →
        Refused e q 0x60 .busy [⟨.flyer, f.val⟩] s u) ∧
      ((∀ f, (u.flyer f).state.inRun = false) →
        Answered e q 0x60 .accepted .empty s
          { u with image := .saving, saveStep := 1, saveData := imageOf u, flash := .blank }))

/-- The four flash operations of a save, its two ends, and the busy time-out in each operation (R198). After a time-out
in the third or fourth operation the area is a free value; after a read-back that differs it is what was read back; and
with no save in progress there is no operation to end (the model's readings, log entries 11 and 3). -/
def Obligations.SavesRunThroughFourOperations : Prop :=
  ∀ (data : List Byte) (s : State), running s = true →
    let failed (d : Nat) (u : State) : State :=
      { u with
        image := .saveFailed
        saveStep := 0
        log := logAfter u.logMode u.log
          { time := u.clock, code := .saveFailed, cls := .note, flyer := none, axis := none, station := none,
            port := none, detail := .number d } }
    let c := Instr.flashOperationDone data
    (s.saveStep = 0 → exec c s = .next (finish s) ∧ exec .saveBusyTimeout s = .next (finish s)) ∧
    (s.saveStep = 1 → exec c s = .next (finish { s with saveStep := 2 })) ∧
    (s.saveStep = 2 → exec c s = .next (finish { s with saveStep := 3, flash := .body (s.saveData.take 574) })) ∧
    (s.saveStep = 3 → exec c s = .next (finish { s with saveStep := 4, flash := .whole s.saveData })) ∧
    (s.saveStep = 4 → data = s.saveData →
      exec c s = .next (finish { s with image := .saved, saveStep := 0, flash := .whole data })) ∧
    (s.saveStep = 4 → data ≠ s.saveData → exec c s = .next (finish (failed 2 { s with flash := .whole data }))) ∧
    (s.saveStep = 1 ∨ s.saveStep = 2 → exec .saveBusyTimeout s = .next (finish (failed 1 s))) ∧
    (s.saveStep = 3 ∨ s.saveStep = 4 → ∃ bytes,
      exec .saveBusyTimeout s = .next (finish (failed 1 { s with flash := .whole bytes, free := s.free + 1 })))

/-! ## The motion frame and the drive ports -/

/-- A motion frame: every drive port counts its miss, decides its swap and sends one frame, the cut-off count falls
while all-stop is active, and the stores and links stand as they stood; a flyer found in WAITING, HELD, FAULTED or at
rest stays as it is with both indications false; every flyer that is no follower is advanced in flyer number order
against the state from before the frame; and, but for the frame of the cut-off expiry, which
CutOffFaultsEveryFlyerStillStopping has, every port then takes the frame once, in some order (R53, R108, R137, R142,
R151, R165). What the advance makes of a flyer, with its formation. In RELEASING the brake count and the jog validity
fall, and the last frame of the count faults BRAKE_TIMEOUT; in DWELLING the dwell count falls, and at 0 the
interpreter runs on (R99, R104, R127). On a cue path: the bounded speed, PATH_GEOMETRY with nothing committed, or the
commit of points, lengths, counts, speed and MARKs; then SEPARATION, the arrival with its dwell or a run of the
interpreter, the HOLD on its outcome, HOLDING to HELD and the end of a stop (R54, R103, R108 to R120, R122). On a jog:
V', the volume, the zones and the limits in order, the commit, the end of a stop and the validity count (R127 to
R135). The model's readings: a port takes its stages together (log entry 6), a member not ENGAGED is passed over (9),
the frame on which a stop that begins at rest ends (16), the flyer number order (18), which member faults where
several fail (35), the advance of a flyer in STOPPING with no current segment (36), AT_LIMIT of a step that the third
governing pass ends (37). -/
def Obligations.MotionFrameIsTakenByEveryPort : Prop :=
  let stands (x : FlyerState) : Prop :=
    match x with
    | .cueRun .waiting | .held _ | .undefined | .unready | .unlocated | .parked | .faulted => True
    | .releasing | .cueRun .moving | .cueRun .dwelling | .holding | .jogging | .stopping _ => False
  (∀ s : State, running s = true → ∃ t, exec .motionFrame s = .next t ∧
    (∀ p,
      let x := s.port p
      let y := t.port p
      let missed := x.last.isSome = true ∧ x.answered = false
      y.last = some x.next ∧ y.next = x.next + 1 ∧ y.answered = false ∧ y.sent = x.sent + 1 ∧
      y.miss = (if missed then min (x.miss + 1) 255 else x.miss) ∧
      y.missed = (if missed then x.missed + 1 else x.missed) ∧
      y.good = x.good ∧ y.discarded = x.discarded ∧ y.shadow = x.shadow ∧ y.swap = false ∧
      (x.swap = false → y.active = x.active) ∧ (x.swap = true → y.active = x.active ∨ y.active = x.shadow)) ∧
    t.cutCount = (if s.allStop.isSome then s.cutCount - 1 else s.cutCount) ∧
    t = { s with cutCount := t.cutCount, axes := t.axes, flyers := t.flyers, ports := t.ports, log := t.log,
                 grants := t.grants, alarm := t.alarm, free := t.free }) ∧
  (∀ (s : State) (g : FlyerId), FormationsSound s → stands (s.flyer (leaderOf s g)).state →
    (trajectoryFrame s).flyer g = { s.flyer g with governed := false, atLimit := false }) ∧
  (∀ s : State, running s = true → s.allStop = none ∨ s.cutCount ≠ 1 → ∃ (ps : List PortId) (n : Nat),
    ps.Perm allPorts ∧
    exec .motionFrame s = .next (finish (forEach ps (fun p u => sendSetPoints p (takeSwap p (accountMiss p u)))
      { trajectoryFrame { s with cutCount := if s.allStop.isSome then s.cutCount - 1 else s.cutCount } with free := n }))) ∧
  (∀ (s : State) (f : FlyerId), FormationsSound s → isFollower s f = false →
    (∀ g, leaderOf s g ≠ f → stands (s.flyer (leaderOf s g)).state) → ∃ F,
      let u : State := { s with flyers := F }
      (∀ g, u.flyer g = { s.flyer g with governed := false, atLimit := false }) ∧
      trajectoryFrame s = advanceFlyer u f u) ∧
  (∀ s : State, ∃ F,
    let u : State := { s with flyers := F }
    (∀ g, u.flyer g = { s.flyer g with governed := false, atLimit := false }) ∧
    trajectoryFrame s = forEach (allFlyers.filter fun f => !isFollower s f) (advanceFlyer u) u) ∧
  (∀ (before s : State) (f : FlyerId) (r : Run), (s.flyer f).run = some r →
    let x := s.flyer f
    let t := advanceFlyer before f s
    let released (a : AxisId) : Prop := ∃ fb, (s.axis a).feedback = some fb ∧ fb.brakeReleased = true
    let v := s.setFlyer f { x with
      run := some { r with
        brake := r.brake - 1, jogValid := r.jogValid - 1
        jogReq := if r.jogValid = 1 then Vec3.zero else r.jogReq } }
    let w := s.setFlyer f { x with run := some { r with dwell := r.dwell - 1 } }
    (x.state = .releasing → 1 < r.brake → t = v) ∧
    (x.state = .releasing → r.brake ≤ 1 → (∀ g ∈ concernedFlyers s f, ∀ a ∈ membersOf s g, released a) → t = v) ∧
    (x.state = .releasing → r.brake ≤ 1 → ∀ fs g gs as a bs, concernedFlyers s f = fs ++ g :: gs →
      (∀ h ∈ fs, ∀ b ∈ membersOf s h, released b) → membersOf s g = as ++ a :: bs → (∀ b ∈ as, released b) → ¬released a →
      t = takeFault false .flyerStop { code := .brakeTimeout, axis := some a, station := none, detail := .none } g v) ∧
    (x.state = .cueRun .dwelling → t = if r.dwell ≤ 1 then runInterpreter f w else w)) ∧
  (∀ (before s : State) (f : FlyerId) (why : StopReason) (r : Run) (here : Vec3), FormationsSound s → MembersApart s →
    (s.flyer f).state = .stopping why → (s.flyer f).run = some r → r.kind = .path → r.seg = none →
    (s.flyer f).point = some here →
    let points := memberPoints (concerned s f) here
    let exceeded := (allLengths s points).any fun l =>
      (s.axis l.1).committed.any fun c => decide (l.2.1.vline * s.t < (l.2.2 - c).natAbs)
    let t := advanceFlyer before f s
    (∀ e, geometryFault s points = some e → t = takeFault false .flyerDead
      { code := .pathGeometry, axis := none, station := none, detail := .number e.2.code } e.1 s) ∧
    (geometryFault s points = none → ∃ c,
      CommittedTo s c f here exceeded false (fun h x =>
        { x with run := if h = f then some { r with v := 0 } else x.run }) ∧
      let w : State :=
        match separationFailure before points, why with
        | some e, .request =>
          takeFault false .flyerStop { code := .separation, axis := none, station := none, detail := .number e.2.val } e.1 c
        | _, _ => c
      t = match (w.flyer f).state with
        | .stopping .request => leaveRun f .parked w
        | .stopping _ => leaveRun f .faulted w
        | _ => w)) ∧
  (∀ (before s : State) (f : FlyerId) (r : Run) (g : Segment) (here : Vec3), FormationsSound s → MembersApart s →
    (s.flyer f).run = some r → r.kind = .path → r.seg = some g → (s.flyer f).point = some here →
    (∀ x, (s.flyer f).state = x → x = .cueRun .moving ∨ x = .holding ∨ ∃ why, x = .stopping why) →
    let fs := concernedFlyers s f
    let lim := limitsOf s f
    let v := min (candidateSpeed (s.flyer f).state lim s.t r.v g.cap)
      (brakingBound lim.ap (g.len - r.d) (windowAfter s.dir lim.vp 7 g))
    let step := governed s (concerned s f) lim.vp { seg := g, d := r.d, v := v, step := 0, marks := [], arrived := false }
      here 3 false (v * s.t)
    let t := advanceFlyer before f s
    (∀ e, step = .error e → t = takeFault false .flyerDead
      { code := .pathGeometry, axis := none, station := none, detail := .number e.2.code } e.1 s) ∧
    ∀ k, step = .ok k → ∃ c,
      CommittedTo s c f k.point k.governed false (fun h x =>
        { x with
          mark := k.went.marks.getLast?.getD x.mark
          markCount := (x.markCount + k.went.marks.length) % 65536
          run := if h = f then some { r with
              seg := some k.went.seg, d := k.went.d, v := k.went.v
              posRecord := if k.went.seg = g then r.posRecord else k.went.seg.record + 1 }
            else x.run }) ∧
      let w : State :=
        match separationFailure before (memberPoints (concerned s f) k.point), (s.flyer f).state with
        | some e, .cueRun _ | some e, .holding | some e, .stopping .request =>
          takeFault false .flyerStop { code := .separation, axis := none, station := none, detail := .number e.2.val } e.1 c
        | _, _ => c
      let dwell := dwellOf s.dir k.went.seg
      let came : State :=
        if 0 < dwell then setStates fs (.cueRun .dwelling)
          (w.setFlyer f { w.flyer f with run := (w.flyer f).run.map fun r => { r with dwell := frames dwell s.t } })
        else runInterpreter f w
      t = if k.went.arrived = true then
            match (w.flyer f).state with
            | .cueRun _ => came
            | .holding =>
              (match (came.flyer f).state with
               | .cueRun p => setStates fs (.held p) came
               | _ => came)
            | .stopping .request => leaveRun f .parked w
            | .stopping _ => leaveRun f .faulted w
            | _ => w
          else if k.went.v = 0 then
            match (s.flyer f).state, (w.flyer f).state with
            | .cueRun _, _ => w
            | _, .holding => setStates fs (.held .moving) w
            | _, .stopping .request => leaveRun f .parked w
            | _, .stopping _ => leaveRun f .faulted w
            | _, _ => w
          else w) ∧
  ∀ (before s : State) (f : FlyerId) (rig : Rig) (r : Run) (here : Vec3), FormationsSound s → MembersApart s →
    rigOf s f = some rig → (s.flyer f).run = some r → r.kind = .jog → (s.flyer f).point = some here →
    (∀ x, (s.flyer f).state = x → x = .jogging ∨ ∃ why, x = .stopping why) →
    let fs := concerned s f
    let v := jogVelocity (s.flyer f).state (limitsOf s f) s.t r
    let j0 : JogStep := { cand := here.add (v.scale s.t), v := v, atLimit := false, governed := false }
    let j1 := holdInVolume rig (commonVolume s rig.volume fs) here j0
    let j := limitJog before s fs here (turnAside s fs here (componentsOf rig.kind) j1)
    let t := advanceFlyer before f s
    ∃ c,
      CommittedTo s c f j.cand j.governed j.atLimit (fun h x =>
        { x with run := if h = f then some { r with jogV := j.v } else x.run }) ∧
      t = match (s.flyer f).state with
        | .stopping .request => if j.v = Vec3.zero then leaveRun f .parked c else c
        | .stopping _ => if j.v = Vec3.zero then leaveRun f .faulted c else c
        | _ => c.setFlyer f { c.flyer f with
          run := some { r with
            jogV := j.v, jogValid := r.jogValid - 1
            jogReq := if r.jogValid = 1 then Vec3.zero else r.jogReq } }

/-- What a port sends: the sequence, and in each slot enable on with the outgoing set-point of an ENGAGED axis, and
otherwise enable off with the latest counts, or 0; the counts sent enter the histories (R138, R139, R203). And what its swap
stage makes of a pending swap: dropped, with SLOT_SWAP_DROPPED naming the first axis that causes it, or applied, with the
axes placed, moved and removed at their new mapping and their flyers at rest under the readiness rule (R24, R35, R151, R152;
that an ENGAGED axis is named before the staged axis of its slot is the model's choice, log entry 38). -/
def Obligations.SetPointsAreSentAndRecorded : Prop :=
  (∀ (p : PortId) (s : State), (s.port p).active.doubled = false →
    let x := s.port p
    let t := sendSetPoints p s
    let out : Option AxisId → Bool × Int
      | none => (false, 0)
      | some a =>
        if (s.axis a).state = .engaged then (true, (s.axis a).outgoing)
        else (false, ((s.axis a).feedback.map fun fb => fb.counts).getD 0)
    let bytes (e : Bool × Int) : List Byte := (if e.1 then 1 else 0) :: bytesOf 3 e.2
    let frame : List Byte := x.next :: (bytes (out x.active.slot0) ++ bytes (out x.active.slot1))
    t = { s with ports := t.ports, axes := t.axes } ∧
    (∀ g, g ≠ p → t.port g = s.port g) ∧
    t.port p =
      { x with
        last := some x.next
        next := x.next + 1
        answered := false
        sent := x.sent + 1
        line := frame ++ bytesOf 2 (crc16 frame).toNat } ∧
    ∀ a, t.axis a =
      if x.active.slot0 = some a ∨ x.active.slot1 = some a then
        { s.axis a with previous := (s.axis a).current, current := (out (some a)).2 }
      else s.axis a) ∧
  ∀ (p : PortId) (s : State),
    let x := s.port p
    let t := takeSwap p s
    let engaged (o : Option AxisId) : Bool := o.any fun a => decide ((s.axis a).state = .engaged)
    let elsewhere (n : Option AxisId) : Bool := n.any fun a => decide (∃ g, g ≠ p ∧ (s.port g).active.has a = true)
    let bad (o n : Option AxisId) : Prop := o ≠ n ∧ (engaged o = true ∨ elsewhere n = true)
    let dropped (a : AxisId) (cause : Nat) : State :=
      { s.setPort p { x with swap := false } with
        log := logAfter s.logMode s.log
          { time := s.clock, code := .slotSwapDropped, cls := .note, flyer := flyerOfAxis s a, axis := some a,
            station := none, port := some p, detail := .number cause } }
    let decides (o n : Option AxisId) : Prop := o ≠ n →
      (∀ a, o = some a → engaged o = true → t = dropped a 1) ∧
      ∀ a, n = some a → engaged o = false → elsewhere n = true → t = dropped a 2
    let placed (a : AxisId) : Bool :=
      decide ((x.shadow.slot0 = some a ∧ x.active.slot0 ≠ some a) ∨ (x.shadow.slot1 = some a ∧ x.active.slot1 ≠ some a))
    let removed (a : AxisId) : Bool := x.active.has a && !x.shadow.has a
    let remapped (a : AxisId) (st : AxisState) : Axis :=
      { s.axis a with state := st, feedback := none, cause := none, slack := 0, current := 0, previous := 0 }
    (x.swap = false → t = s) ∧
    (x.swap = true →
      decides x.active.slot0 x.shadow.slot0 ∧
      (¬bad x.active.slot0 x.shadow.slot0 → decides x.active.slot1 x.shadow.slot1) ∧
      (¬bad x.active.slot0 x.shadow.slot0 → ¬bad x.active.slot1 x.shadow.slot1 →
        t = { s with ports := t.ports, axes := t.axes, flyers := t.flyers } ∧
        t.port p = { x with active := x.shadow, swap := false } ∧ (∀ g, g ≠ p → t.port g = s.port g) ∧
        (∀ a, t.axis a =
          if placed a = true then remapped a .unreferenced
          else if removed a = true then remapped a .unmapped
          else s.axis a) ∧
        ∀ f, t.flyer f =
          if (membersOf s f).any (fun a => placed a || removed a) = true then
            { s.flyer f with
              state := readyState ((membersOf s f).all fun a => decide ((t.axis a).state = .ready)) (s.flyer f).located
                (s.flyer f).state }
          else s.flyer f))

/-- A feedback frame is taken where it echoes the last sequence sent on a port that is not yet answered: the port is
answered and its miss count 0, and each axis of the active slots holds what the frame reports; any other frame raises
the discarded counter alone (R140, R141). A frame that is taken is the supervision of the axis in slot 0, then of that
in slot 1, then the readiness rule on every flyer with a member on the port, then the completed release of each flyer
in RELEASING, by itself or leading its formation, with a member there and its brakes all reported released (R35, R38,
R99, R141, R143). -/
def Obligations.FeedbackIsTakenOrDiscarded : Prop :=
  ∀ (p : PortId) (echo : Nat) (fb0 fb1 : Feedback) (s : State), running s = true →
    let x := s.port p
    let c := Instr.feedbackFrame p echo fb0 fb1
    let fresh : Prop := x.last.map BitVec.toNat = some echo ∧ x.answered = false
    (¬fresh → exec c s = .next (finish (s.setPort p { x with discarded := x.discarded + 1 }))) ∧
    (fresh → ∃ t, exec c s = .next t ∧
      t.port p = { x with answered := true, miss := 0, good := x.good + 1 } ∧
      (∀ g, g ≠ p → t.port g = s.port g) ∧
      (∀ a, x.active.slot1 = some a → (t.axis a).feedback = some fb1) ∧
      (∀ a, x.active.slot0 = some a → x.active.slot1 ≠ some a → (t.axis a).feedback = some fb0) ∧
      (∀ a, x.active.has a = false → (t.axis a).feedback = (s.axis a).feedback) ∧
      (∀ a, (t.axis a).current = (s.axis a).current ∧ (t.axis a).previous = (s.axis a).previous ∧
        (t.axis a).params = (s.axis a).params) ∧
      t = { s with axes := t.axes, flyers := t.flyers, ports := t.ports, log := t.log, grants := t.grants,
                   alarm := t.alarm }) ∧
    (fresh → FormationsSound s → ∃ A F,
      let u : State := { s.setPort p { x with answered := true, miss := 0, good := x.good + 1 } with axes := A }
      let supervised (a : Option AxisId) (fb : Feedback) (v : State) : State :=
        match a with
        | some a => supervise a fb (s.axis a).feedback v
        | none => v
      let v := supervised x.active.slot1 fb1 (supervised x.active.slot0 fb0 u)
      let on (g : FlyerId) : Bool := (membersOf s g).any x.active.has
      let w : State := { v with flyers := F }
      let due (g : FlyerId) : Bool :=
        !isFollower s g && (concernedFlyers s g).any on && decide ((w.flyer g).state = .releasing) && brakesReleased w g
      (∀ a, u.axis a =
        { s.axis a with feedback :=
            if x.active.slot1 = some a then some fb1 else if x.active.slot0 = some a then some fb0
            else (s.axis a).feedback }) ∧
      (∀ g, w.flyer g =
        if on g = true then
          { v.flyer g with
            state := readyState ((membersOf s g).all fun a => decide ((v.axis a).state = .ready)) (v.flyer g).located
              (v.flyer g).state }
        else v.flyer g) ∧
      exec c s = .next (finish (forEach (allFlyers.filter due) completeRelease w)))

/-- The tests of supervision on a sound axis, in order, the first that finds a fault deciding, those that need a
parameter set only where the axis holds one; and where none finds a fault, the slack count of an ENGAGED axis and the
reference of an UNREFERENCED one (R25, R143, R144, R145). And the supervision of an axis in any state: none in
UNMAPPED, the tests in the sound states, in FAULTED a log entry for each condition that rises, and on every arrival
DRIVE_WARNING on its rise (R146, R147; the order of the entries is the model's choice, log entry 18). -/
def Obligations.SupervisionTestsInOrder : Prop :=
  (∀ (a : AxisId) (fb : Feedback) (s : State),
    let x := s.axis a
    let t := superviseSound a fb s
    let error := (x.previous - fb.counts).natAbs
    let heavy : Bool := x.params.any fun p => decide (p.loadMax < fb.load)
    let far : Bool := x.params.any fun p => decide (p.feLimit < error)
    let slack : Nat := if x.params.any (fun p => decide (fb.load < p.slackMin)) = true then x.slack + 1 else 0
    (fb.driveFault = true → t = axisFault .driveFault .none a s) ∧
    (fb.driveFault = false →
      (x.state = .ready ∨ x.state = .engaged → fb.posValid = false → t = axisFault .positionLost .none a s) ∧
      (¬((x.state = .ready ∨ x.state = .engaged) ∧ fb.posValid = false) →
        (heavy = true → t = axisFault .overload (.number fb.load) a s) ∧
        (heavy = false →
          (x.state = .engaged →
            (far = true → t = axisFault .followingError (.number error) a s) ∧
            (far = false → 3 ≤ slack → t = axisFault .slack (.number fb.load) a s) ∧
            (far = false → slack < 3 → t = s.setAxis a { x with slack := slack })) ∧
          (x.state = .unreferenced → fb.posValid = true → t = s.setAxis a { x with state := .ready }) ∧
          (x.state = .unreferenced → fb.posValid = false → t = s) ∧
          (x.state = .ready → t = s))))) ∧
  ∀ (a : AxisId) (fb : Feedback) (prev : Option Feedback) (s : State),
    let x := s.axis a
    let t := supervise a fb prev s
    let heavy (y : Feedback) : Bool := overloaded x.params y.load
    let warned (u : State) : State :=
      if fb.driveWarning = true ∧ (prev.map fun y => y.driveWarning) ≠ some true then
        { u with
          log := logAfter u.logMode u.log
            ({ time := u.clock, code := .driveWarning, cls := .note, flyer := flyerOfAxis u a, axis := some a,
               station := none, port := none, detail := .none } : LogEntry) }
      else u
    let rising : List (FaultCode × Detail) :=
      (if fb.driveFault = true ∧ (prev.map fun y => y.driveFault) ≠ some true then [(.driveFault, .none)] else []) ++
      (if fb.posValid = false ∧ (prev.map fun y => y.posValid) = some true then [(.positionLost, .none)] else []) ++
      (if heavy fb = true ∧ (prev.map heavy) ≠ some true then [(.overload, .number fb.load)] else [])
    (x.state = .unmapped → t = s) ∧
    (x.state = .unreferenced ∨ x.state = .ready ∨ x.state = .engaged → t = warned (superviseSound a fb s)) ∧
    (x.state = .faulted → t = warned { s with
      log := rising.foldl (fun l e => logAfter s.logMode l
        { time := s.clock, code := e.1, cls := e.1.cls, flyer := flyerOfAxis s a, axis := some a, station := none,
          port := none, detail := e.2 }) s.log })

/-! ## Counts that run out -/

/-- The events of the counts: the miss that is the third of a port, with FEEDBACK_LOST on the axis of slot 0 and then
on that of slot 1, each with its stop of the flyer; the brake release count, with BRAKE_TIMEOUT on the first member, in
formation order and member order, whose brake is not reported released; the dwell count, with the run of the
interpreter of the flyer and its formation; and the validity of a jog (R27, R28, R38, R45, R99, R104, R127, R142,
R161). Of a lone flyer what the brake and the dwell count leave is written out. That each is an event of its own beside
its share of a motion frame, and that one whose count does not run out changes nothing, are the model's readings (log
entries 4 and 3). And the miss accounting of a port on a motion frame (R142). -/
def Obligations.CountsThatRunOutAct : Prop :=
  ∀ s : State, running s = true →
    (∀ p,
      let x := s.port p
      let due : Prop := x.last.isSome = true ∧ x.answered = false ∧ x.miss = 2
      (¬due → exec (.feedbackLost p) s = .next (finish s)) ∧
      (due → ∃ t, exec (.feedbackLost p) s = .next t ∧
        t.port p = { x with miss := 3, missed := x.missed + 1 } ∧ (∀ g, g ≠ p → t.port g = s.port g) ∧
        (∀ a, x.active.has a = true → (t.axis a).state = .faulted ∧
          ((s.axis a).state ≠ .faulted → (t.axis a).cause = some .feedbackLost)) ∧
        ∀ a, x.active.has a = false → (s.axis a).state ≠ .engaged → t.axis a = s.axis a)) ∧
    (∀ p,
      let x := s.port p
      let lost (o : Option AxisId) (v : State) : State :=
        match o with
        | some a => axisFault .feedbackLost (.number (p.val : Nat)) a v
        | none => v
      let third := lost x.active.slot1 (lost x.active.slot0 (s.setPort p { x with miss := 3, missed := x.missed + 1 }))
      (x.last.isSome = true → x.answered = false → x.miss = 2 → exec (.feedbackLost p) s = .next (finish third)) ∧
      accountMiss p s =
        if x.last.isSome = true ∧ x.answered = false then
          if x.miss = 2 then third
          else s.setPort p { x with miss := min (x.miss + 1) 255, missed := x.missed + 1 }
        else s) ∧
    (∀ f, ¬((s.flyer f).state = .releasing ∧ ∃ r, (s.flyer f).run = some r ∧ r.brake ≤ 1) →
      exec (.brakeTimeout f) s = .next (finish s)) ∧
    (∀ f r before a after, (s.flyer f).state = .releasing → (s.flyer f).run = some r → r.brake ≤ 1 → Alone s f →
      membersOf s f = before ++ a :: after →
      (∀ b ∈ before, ∃ fb, (s.axis b).feedback = some fb ∧ fb.brakeReleased = true) →
      (∀ fb, (s.axis a).feedback = some fb → fb.brakeReleased = false) →
      ∃ A,
        let e : Cause := { code := .brakeTimeout, axis := some a, station := none, detail := .none }
        let v : State := { s.setFlyer f { s.flyer f with
            state := .faulted
            run := none
            cause := (s.flyer f).cause.or (some e)
            point := if (s.flyer f).located then (s.flyer f).point else none } with
          axes := A
          log := logAfter s.logMode s.log ⟨s.clock, .brakeTimeout, .flyerStop, some f, some a, none, none, .none⟩ }
        exec (.brakeTimeout f) s = .next (finish v) ∧
        ∀ b, v.axis b =
          if b ∈ membersOf s f ∧ (s.axis b).state = .engaged then { s.axis b with state := .ready, committed := none }
          else s.axis b) ∧
    (∀ f r, (s.flyer f).state = .releasing → (s.flyer f).run = some r → r.brake ≤ 1 →
      let released (a : AxisId) : Prop := ∃ fb, (s.axis a).feedback = some fb ∧ fb.brakeReleased = true
      let v := s.setFlyer f { s.flyer f with run := some { r with brake := r.brake - 1 } }
      ((∀ g ∈ concernedFlyers s f, ∀ a ∈ membersOf s g, released a) → exec (.brakeTimeout f) s = .next (finish v)) ∧
      ∀ fs g gs as a bs, concernedFlyers s f = fs ++ g :: gs → (∀ h ∈ fs, ∀ b ∈ membersOf s h, released b) →
        membersOf s g = as ++ a :: bs → (∀ b ∈ as, released b) → ¬released a →
        exec (.brakeTimeout f) s = .next (finish (takeFault false .flyerStop
          { code := .brakeTimeout, axis := some a, station := none, detail := .none } g v))) ∧
    (∀ f r, (s.flyer f).state = .cueRun .dwelling → (s.flyer f).run = some r → r.dwell ≤ 1 →
      exec (.dwellEnd f) s = .next (finish (runInterpreter f
        (s.setFlyer f { s.flyer f with run := some { r with dwell := r.dwell - 1 } })))) ∧
    (∀ f, ¬((s.flyer f).state = .cueRun .dwelling ∧ ∃ r, (s.flyer f).run = some r ∧ r.dwell ≤ 1) →
      exec (.dwellEnd f) s = .next (finish s)) ∧
    (∀ f r p, (s.flyer f).state = .cueRun .dwelling → (s.flyer f).run = some r → r.dwell ≤ 1 →
      (s.flyer f).point = some p → Alone s f →
      let x := s.flyer f
      let out := interpret s.dir Config.walkBound ⟨r.posCue, r.posRecord, r.stack⟩ none 0
      let y : Flyer := { x with mark := out.lastMark.getD x.mark, markCount := (x.markCount + out.marks) % 65536 }
      let moved : Run := { r with
        posCue := out.pos.cue, posRecord := out.pos.record, stack := out.pos.stack, dwell := 0, v := 0 }
      (∀ m c i, out.stop = .move m c i →
        exec (.dwellEnd f) s = .next (finish (s.setFlyer f { y with
          state := .cueRun .moving
          run := some { moved with seg := some (segmentOf s.dir (limitsOf s f).vp p m c i), d := 0 } }))) ∧
      (out.stop = .wait →
        exec (.dwellEnd f) s = .next (finish (s.setFlyer f { y with
          state := .cueRun .waiting, run := some moved }))) ∧
      (out.stop = .runEnd → ∃ A,
        exec (.dwellEnd f) s = .next (finish { s.setFlyer f { y with state := .parked, run := none } with axes := A }) ∧
        ∀ a : AxisId, A[a] =
          if a ∈ membersOf s f ∧ (s.axis a).state = .engaged then { s.axis a with state := .ready, committed := none }
          else s.axis a)) ∧
    ∀ f,
      let x := s.flyer f
      let due (r : Run) : Prop := (x.state = .releasing ∨ x.state = .jogging) ∧ x.run = some r ∧ r.jogValid = 1
      ((∀ r, ¬due r) → exec (.jogValidityExpiry f) s = .next (finish s)) ∧
      ∀ r, due r → exec (.jogValidityExpiry f) s =
        .next (finish (s.setFlyer f { x with run := some { r with jogValid := 0, jogReq := Vec3.zero } }))

/-- The cut-off expiry: every flyer still in STOPPING is FAULTED and not located, its members leave ENGAGED, and
CUTOFF is logged for it with its speed; its fault cause stays (R165). By itself that is the row CUTOFF; that it is
nothing where no expiry is due, and that the entries come in flyer number order, are the model's readings (log entries
4, 3, 18). The motion frame of the expiry: the cut-off count is 0; for each flyer, a formation as one, the expiry
comes first or the frame's advance does, whichever it is; whatever is still in STOPPING after the advance is cut off;
and every port takes the frame once, in some order. So, with every flyer in a state that all-stop leaves possible, no
flyer is left in STOPPING; each that was found there, none by REQUEST, is FAULTED with the cause it had; and every
other flyer stands as the ordinary frame leaves it, with both indications false, until the ports act on it (R108,
R137, R142, R151, R163, R165). That the advance passes over a flyer cut off before it, that the cut-off comes before
the ports, and that a port takes its stages together are the model's readings (log entries 5, 21, 6). -/
def Obligations.CutOffFaultsEveryFlyerStillStopping : Prop :=
  let cutOff (who : FlyerId → Bool) (s v : State) : Prop := ∃ A F L,
    v = { s with axes := A, flyers := F, log := L } ∧
    (∀ f, v.flyer f =
      if (s.flyer f).state.isStopping = true ∧ who f = true then
        { s.flyer f with state := .faulted, located := false, point := none, run := none }
      else s.flyer f) ∧
    (∀ a, v.axis a =
      if (s.axis a).state = .engaged ∧ ∃ f, a ∈ membersOf s f ∧ (s.flyer f).state.isStopping = true ∧ who f = true then
        { s.axis a with state := .ready, committed := none }
      else s.axis a) ∧
    L = (allFlyers.filter fun f => (s.flyer f).state.isStopping && who f).foldl (fun l f => logAfter s.logMode l
      { time := s.clock, code := .cutoff, cls := .allStop, flyer := some f, axis := none, station := none,
        port := none, detail := .number (speedOf s f) }) s.log
  ∀ s : State, running s = true →
    (¬(s.allStop ≠ none ∧ s.cutCount = 1) → exec .cutoff s = .next (finish s)) ∧
    (s.allStop ≠ none → s.cutCount = 1 → ∃ v,
      cutOff (fun _ => true) { s with cutCount := 0 } v ∧ exec .cutoff s = .next (finish v)) ∧
    (s.allStop ≠ none → s.cutCount = 1 → ∃ (first : FlyerId → Bool) (ps : List PortId) (n : Nat) (u v t : State),
      (∀ f g, leaderOf s f = leaderOf s g → first f = first g) ∧
      ps.Perm allPorts ∧
      cutOff first { s with cutCount := 0, free := s.free + 1 } u ∧
      cutOff (fun _ => true) (trajectoryFrame u) v ∧
      t = finish (forEach ps (fun p x => sendSetPoints p (takeSwap p (accountMiss p x))) { v with free := n }) ∧
      exec .motionFrame s = .next t ∧
      t.cutCount = 0 ∧
      ((∀ p, (s.port p).swap = false ∧
          ¬((s.port p).last.isSome = true ∧ (s.port p).answered = false ∧ (s.port p).miss = 2)) →
        t.flyers = v.flyers) ∧
      (∀ f, (v.flyer f).state.isStopping = false) ∧
      (AllStopCalm s →
        (∀ f, (t.flyer f).state.isStopping = false) ∧
        (FormationsSound s → ∀ f, (s.flyer f).state.isStopping = false →
          (s.flyer (leaderOf s f)).state.isStopping = false →
          v.flyer f = { s.flyer f with governed := false, atLimit := false }) ∧
        ((∀ f, (s.flyer f).state ≠ .stopping .request) → ∀ f, (s.flyer f).state.isStopping = true →
          (t.flyer f).state = .faulted ∧ (t.flyer f).run = none ∧
          ∀ c, (s.flyer f).cause = some c → (t.flyer f).cause = some c)))

/-! ## Resets and start-up -/

/-- What the two resets leave: every value of a power-on reset, and after a warm reset the configuration, the cues and
the log kept (R46, R60, R80, R155, R174, R191, R192, R199). That between the reset and START_UP_END the alarm is
deasserted, all-stop inactive and the link lines empty, whatever the chain, and that a reset is one event, are the
model's readings (log entries 2 and 34). -/
def Obligations.ResetsSetEveryPieceOfState : Prop :=
  (∀ s : State, exec .powerOnReset s = .next
    { State.reset with flash := s.flash, chainOpen := s.chainOpen, free := s.free, pending := s.pending }) ∧
  (∀ s : State, s.startup = .powerOn → exec .warmReset s = exec .powerOnReset s) ∧
  ∀ s : State, s.startup ≠ .powerOn → ∃ t, exec .warmReset s = .next t ∧
    (∀ a, t.axis a =
      { params := (s.axis a).params, state := .unmapped, cause := none, outgoing := 0, current := 0, previous := 0,
        committed := none, feedback := none, slack := 0 }) ∧
    (∀ f, t.flyer f =
      { defn := (s.flyer f).defn, rig := (s.flyer f).rig
        state := if (s.flyer f).defn.isSome then .unready else .undefined
        located := false, point := none, run := none, mark := 0, markCount := 0, governed := false, atLimit := false,
        cause := none, frozen := false }) ∧
    (∀ p, t.port p =
      { active := (s.port p).active, shadow := (s.port p).active, swap := false, next := 0, last := none,
        answered := false, miss := 0, sent := 0, good := 0, discarded := 0, missed := 0, line := [] }) ∧
    (∀ st, t.station st =
      { link := .down, enable := false, silence := none, queue := [], upload := none, good := 0, discarded := 0,
        refused := 0, line := [] }) ∧
    (∀ f, t.grant f = { owner := none, mark := false }) ∧
    t = { s with
      startup := .warm, axes := t.axes, flyers := t.flyers, grants := t.grants, ports := t.ports, allStop := none,
      cutCount := 0, alarm := false, stationA := t.stationA, stationB := t.stationB, clock := 0, image := .idle,
      saveStep := 0, saveData := [] }

/-- The end of start-up: the show clock 0, the axes by their slots, the flyers UNREADY or UNDEFINED, the links, uploads,
grants and counters at their reset values, every shadow equal to its active table, all-stop where the chain is open; after
a warm reset the configuration as it stood, with the rig constants and the log, to which an open chain adds ESTOP_CHAIN
stamped 0; with no valid image every configuration item at its default and IMAGE_DEFAULTS logged; and with a valid image each item that passes
its test taken, each that fails it at its default with IMAGE_ITEM_REPLACED naming its offset, in the order of R195
(R46, R155, R174, R191 to R195; that START_UP_END with no start-up running changes nothing, and that the link lines and
the data of a save stand empty after it, are the model's readings, log entries 3 and 2). -/
def Obligations.StartUpEndsInTheStatedState : Prop :=
  ∀ (answers : Bool) (s : State),
    (s.startup = .running → exec (.startUpEnd answers) s = .next s) ∧
    (s.startup ≠ .running → ∃ t, exec (.startUpEnd answers) s = .next t ∧
      t.startup = .running ∧ t.clock = 0 ∧ t.image = .idle ∧ t.saveStep = 0 ∧ t.saveData = [] ∧ t.flash = s.flash ∧
      t.chainOpen = s.chainOpen ∧ (t.alarm = true ↔ s.chainOpen = true) ∧ t.cutCount = 0 ∧
      (∀ p, t.port p =
        { active := (t.port p).active, shadow := (t.port p).active, swap := false, next := 0, last := none,
          answered := false, miss := 0, sent := 0, good := 0, discarded := 0, missed := 0, line := [] }) ∧
      (∀ st, t.station st =
        { link := .down, enable := false, silence := none, queue := [], upload := none, good := 0, discarded := 0,
          refused := 0, line := [] }) ∧
      (∀ a, t.axis a =
        { params := (t.axis a).params
          state := if ∃ p, (t.port p).active.has a = true then .unreferenced else .unmapped
          cause := none, outgoing := 0, current := 0, previous := 0, committed := none, feedback := none, slack := 0 }) ∧
      (∀ f, t.grant f = { owner := none, mark := false } ∧ t.flyer f =
        { defn := (t.flyer f).defn, rig := (t.flyer f).rig
          state := if (t.flyer f).defn.isSome then .unready else .undefined
          located := false, point := none, run := none, mark := 0, markCount := 0, governed := false, atLimit := false,
          cause := none, frozen := false }) ∧
      t.allStop = (if s.chainOpen = true then
        some { code := .estopChain, axis := none, station := none, detail := .none } else none) ∧
      (s.startup = .warm → t.t = s.t ∧ t.cfgT = s.cfgT ∧ t.cutoff = s.cutoff ∧ t.logMode = s.logMode ∧
        t.dsep = s.dsep ∧ t.dir = s.dir ∧ t.formations = s.formations ∧ t.zones = s.zones ∧
        (∀ a, (t.axis a).params = (s.axis a).params) ∧ (∀ p, (t.port p).active = (s.port p).active) ∧
        (∀ f, (t.flyer f).defn = (s.flyer f).defn ∧ (t.flyer f).rig = (s.flyer f).rig) ∧
        t.log = if s.chainOpen = true then
            logAfter s.logMode s.log
              { time := 0, code := .estopChain, cls := .allStop, flyer := none, axis := none, station := none,
                port := none, detail := .none }
          else s.log) ∧
      (s.startup = .powerOn → t.cfgT = t.t ∧ ∀ e ∈ t.log, e.time = 0) ∧
      (s.startup = .powerOn → answers = false ∨ (∀ bs, s.flash = .whole bs → imageValid bs = false) →
        t.t = 4 ∧ t.cfgT = 4 ∧ t.cutoff = 1500 ∧ t.logMode = .newest ∧ t.dsep = 0 ∧ t.dir = [] ∧
        (∀ a, (t.axis a).params = none) ∧ (∀ p, (t.port p).active = ⟨none, none⟩) ∧
        (∀ f, (t.flyer f).defn = none ∧ (t.flyer f).rig = none) ∧ (∀ n, t.formation n = none) ∧
        (∀ z, t.zone z = { enabled := false, box := ⟨Vec3.zero, Vec3.zero⟩, mask := 0 }) ∧
        t.log =
          { time := 0, code := .imageDefaults, cls := .note, flyer := none, axis := none, station := none,
            port := none, detail := .none } ::
          if s.chainOpen = true then
            [{ time := 0, code := .estopChain, cls := .allStop, flyer := none, axis := none, station := none,
               port := none, detail := .none }]
          else []) ∧
      (s.startup = .powerOn → answers = true → ∀ bs, s.flash = .whole bs → imageValid bs = true →
        let axisItem (a : AxisId) := entryAt bs (axisOffset a) (passing paramsInRange (paramsAt bs (axisOffset a + 1)))
        let slotItem (p : PortId) : Option Slots :=
          (slotsOf (u8At bs (portOffset p)) (u8At bs (portOffset p + 1))).filter fun x =>
            decide (∀ g, g < p → ∀ a, x.has a = true → (t.port g).active.has a = false)
        let flyerItem (f : FlyerId) := entryAt bs (flyerOffset f)
          ((flyerDefOf (flyerFieldsAt bs (flyerOffset f + 1))).filter fun d =>
            decide (∀ a ∈ d.members, (t.axis a).params ≠ none ∧ ∀ g, g < f → a ∉ membersOf t g) &&
              anchorsUsable (paramsOf t) d)
        let formationItem (n : FormationId) := entryAt bs (formationOffset n)
          ((formationOf (formationFieldsAt bs (formationOffset n + 1))).filter fun m => m.flyers.all fun e =>
            isSpatial t e.1 && decide (∀ k, k < n → ∀ x ∈ t.formation k, x.names e.1 = false))
        let zoneItem (z : ZoneId) := zoneOf (zoneFieldsAt bs (zoneOffset z))
        let period := u8At bs 8
        let cut := u16At bs 9
        let dsep := u16At bs 12
        let replaced : List Nat :=
          (if logModeNamed (u8At bs 11) = none then [11] else []) ++ (if periodInRange period = false then [8] else []) ++
          (if cutoffInRange cut = false then [9] else []) ++ (if 10000 < dsep then [12] else []) ++
          (allAxes.filter fun a => (axisItem a).isNone).map axisOffset ++
          (allPorts.filter fun p => (slotItem p).isNone).map portOffset ++
          (allFlyers.filter fun f => (flyerItem f).isNone).map flyerOffset ++
          (allFormations.filter fun n => (formationItem n).isNone).map formationOffset ++
          (allZones.filter fun z => (zoneItem z).isNone).map zoneOffset
        t.logMode = (logModeNamed (u8At bs 11)).getD .newest ∧
        t.t = (if periodInRange period = true then period else 4) ∧
        t.cutoff = (if cutoffInRange cut = true then cut else 1500) ∧
        t.dsep = (if dsep ≤ 10000 then dsep else 0) ∧
        (∀ a, (t.axis a).params = (axisItem a).getD none) ∧
        (∀ p, (t.port p).active = (slotItem p).getD ⟨none, none⟩) ∧
        (∀ f, (t.flyer f).defn = (flyerItem f).getD none ∧
          (t.flyer f).rig = (t.flyer f).defn.map fun d => rigConstsOf (anchorsUnder (paramsOf t) d) d.drop) ∧
        (∀ n, t.formation n = (formationItem n).getD none) ∧
        (∀ z, t.zone z = (zoneItem z).getD { enabled := false, box := ⟨Vec3.zero, Vec3.zero⟩, mask := 0 }) ∧
        t.dir = [] ∧
        t.log = (replaced.map (fun n : Nat =>
            ({ time := 0, code := .imageItemReplaced, cls := .note, flyer := none, axis := none, station := none,
               port := none, detail := .number n } : LogEntry)) ++
          if s.chainOpen = true then
            [({ time := 0, code := .estopChain, cls := .allStop, flyer := none, axis := none, station := none,
                port := none, detail := .none } : LogEntry)]
          else []).foldl (logAfter t.logMode) []))

/-! ## Arithmetic, segments and the path step -/

/-- The roots, the rounding half away from zero, the motion frames of a time and the drum counts do what their rules
say, and a set whose ranges are checked is count-bounded; and the segment test holds exactly where some point of the
segment lies in the grown box (R4, R6, R7, R18, R19, R50). -/
def Obligations.RootsRoundingsAndTheSlabTestAreExact : Prop :=
  (∀ n : Nat,
    rootDown n * rootDown n ≤ n ∧ n < (rootDown n + 1) * (rootDown n + 1) ∧
    (rootNearest n = 0 ∨ rootNearest n * rootNearest n < n + rootNearest n) ∧
    n ≤ rootNearest n * rootNearest n + rootNearest n) ∧
  (∀ n d : Int, 0 < d →
    2 * (roundHalfAway n d * d - n).natAbs ≤ d ∧
    (2 * ((roundHalfAway n d * d - n).natAbs : Int) = d → n.natAbs < (roundHalfAway n d * d).natAbs)) ∧
  (∀ ms t : Nat, 0 < t → ms ≤ frames ms t * t ∧ ∀ k, ms ≤ k * t → frames ms t ≤ k) ∧
  (∀ (p : AxisParams) (len : Int),
    countsOf p len = roundHalfAway ((len - 1000 * p.l0) * p.k) 1000000 ∧
    (paramsInRange p = true → 1000 * (p.lmin : Int) ≤ len → len ≤ 1000 * p.lmax →
      -8388607 ≤ countsOf p len ∧ countsOf p len ≤ 8388607)) ∧
  ∀ (guard : Int) (b : Box) (p q : Vec3), 0 ≤ guard →
    (segmentEnters guard b p q = true ↔ ∃ n d : Int, 0 < d ∧ 0 ≤ n ∧ n ≤ d ∧ ∀ i : Fin 3,
      d * (1000 * component b.lo i - guard) ≤ d * component p i + n * component (q.sub p) i ∧
      d * component p i + n * component (q.sub p) i ≤ d * (1000 * component b.hi i + guard))

/-- The candidate speed by the flyer's state; the braking bound is the greatest speed from which Ap reaches every cap
of the window at its place and rest at its end; the point at the two ends of a segment; and a travelled step ends on a
segment or arrives at its end (R109, R111, R112, R113). What governing lets through keeps every line within Vline times
T, or is no step at all, and never exceeds the bounded speed (R115, R116; a member that is not ENGAGED is passed over,
log entry 9). And of a jog step: the common volume of a formation is what every member's volume allows; the candidate
is held in it, turned aside from every zone, and then either passes the geometric condition, the line limits, the line
rates and separation or is no step at all; each component given up has no velocity left, and AT_LIMIT says so (R129 to
R134; AT_LIMIT of a step that the third governing pass ends is the model's choice, log entry 37, and is left out). -/
def Obligations.PathStepsKeepTheirBounds : Prop :=
  (∀ (ph : Phase) (why : StopReason) (lim : Limits) (t : Nat) (v cap : Int),
    candidateSpeed (.cueRun ph) lim t v cap =
      (if v < cap then min (v + lim.ap * t) cap else if cap < v then max (v - lim.ap * t) cap else cap) ∧
    candidateSpeed .holding lim t v cap = max (v - lim.ap * t) 0 ∧
    candidateSpeed (.stopping why) lim t v cap = max (v - lim.astop * t) 0) ∧
  (∀ (ap : Nat) (dist : Int) (l : List Segment) (v : Int), 0 ≤ dist → (∀ g ∈ l, 0 ≤ g.len) → 0 ≤ v →
    (v ≤ brakingBound ap dist l ↔
      v * v ≤ 2 * ap * (dist + (l.map fun g => g.len).sum) ∧
      ∀ before g after, l = before ++ g :: after →
        v * v ≤ g.cap * g.cap + 2 * ap * (dist + (before.map fun h => h.len).sum))) ∧
  (∀ g : Segment, 0 < g.len → pointAt g g.len = g.stop ∧ pointAt g 0 = g.start) ∧
  (∀ (dir : List Cue) (vp : Nat) (p : Travel) (step : Int), 0 ≤ p.seg.len → 0 ≤ p.d + step → 0 ≤ p.v →
    p.arrived = false →
    let q := travel dir vp p step
    0 ≤ q.d ∧ q.step ≤ step ∧ q.v ≤ p.v ∧ 0 ≤ q.seg.len ∧
      (q.arrived = false → q.d < q.seg.len ∧ q.step = step) ∧
      (q.arrived = true → q.d = q.seg.len ∧ q.v = 0)) ∧
  (∀ (s : State) (fs : List (FlyerId × Vec3)) (vp : Nat) (p : Travel) (here : Vec3) (step : Int) (k : PathStep),
    governed s fs vp p here 3 false step = .ok k → 0 ≤ p.v →
    ((∀ l ∈ allLengths s (memberPoints fs k.point), ∀ c, (s.axis l.1).committed = some c →
        (l.2.2 - c).natAbs ≤ l.2.1.vline * s.t) ∧
      geometryFault s (memberPoints fs k.point) = none ∨
      k.point = here ∧ k.went.v = 0 ∧ k.went.step = 0) ∧ k.went.v ≤ p.v) ∧
  (∀ (s : State) (own : Box) (fs : List (FlyerId × Vec3)) (p : Vec3),
    (commonVolume s own fs).holds p = true ↔
      own.holds p = true ∧ ∀ e ∈ fs, ∀ d, (s.flyer e.1).defn = some d → (d.volume.shifted e.2).holds p = true) ∧
  (∀ (r : Rig) (b : Box) (here : Vec3) (j : JogStep), b.holds (ringPoint r here) = true →
    (r.kind = .vertical → 1 ≤ r.lines.length) → (r.kind = .planar → 2 ≤ r.lines.length) →
    let k := holdInVolume r b here j
    b.holds (ringPoint r k.cand) = true ∧
    (b.holds (ringPoint r j.cand) = true → k = j) ∧
    (b.holds (ringPoint r j.cand) = false → k.atLimit = true) ∧
    ∀ i, component k.cand i = component j.cand i ∧ component k.v i = component j.v i ∨ component k.v i = 0) ∧
  (∀ (s : State) (fs : List (FlyerId × Vec3)) (here : Vec3) (kind : RigKind) (j : JogStep),
    entersZone s fs here here = false →
    (∀ i, i ∉ componentsOf kind → component j.cand i = component here i) →
    let k := turnAside s fs here (componentsOf kind) j
    entersZone s fs here k.cand = false ∧
    (entersZone s fs here j.cand = false → k = j) ∧
    (entersZone s fs here j.cand = true → k.atLimit = true) ∧
    ∀ i, component k.cand i = component j.cand i ∧ component k.v i = component j.v i ∨
      component k.cand i = component here i ∧ component k.v i = 0) ∧
  ∀ (before s : State) (fs : List (FlyerId × Vec3)) (here : Vec3) (j : JogStep), j.governed = false →
    let k := limitJog before s fs here j
    let pts := memberPoints fs k.cand
    (k.cand = here ∧ k.v = Vec3.zero ∨
      limitsFail s pts = false ∧ separationFailure before pts = none ∧
      (∀ l ∈ allLengths s pts, ∀ c, (s.axis l.1).committed = some c → (l.2.2 - c).natAbs ≤ l.2.1.vline * s.t) ∧
      (k.governed = false → k = j) ∧
      (k.governed = true → k.v = (k.cand.sub here).map fun c => towardZero c s.t)) ∧
    (limitsFail s (memberPoints fs j.cand) = true → k.cand = here ∧ k.v = Vec3.zero ∧ k.atLimit = true)

/-! ## Checksums and the image -/

/-- The two checksums give their check values, a sealed frame passes its test, every image written is valid, and the
items of an image that was written read back as the configuration they were written from, wherever each item is one that
its own request takes (R195, R197, R200, R205). -/
def Obligations.AWrittenImageReadsBack : Prop :=
  (let digits : List Byte := [0x31, 0x32, 0x33, 0x34, 0x35, 0x36, 0x37, 0x38, 0x39]
   crc16 digits = 0x29B1 ∧ crc32 digits = 0xCBF43926) ∧
  (∀ bs : List Byte, crc16Holds (sealed16 bs) = true) ∧
  ∀ s : State,
    let bs := imageOf s
    bs.length = 578 ∧ imageValid bs = true ∧
    (s.cfgT < 256 → u8At bs 8 = s.cfgT) ∧ (s.cutoff < 65536 → u16At bs 9 = s.cutoff) ∧
    logModeNamed (u8At bs 11) = some s.logMode ∧ (s.dsep < 65536 → u16At bs 12 = s.dsep) ∧
    (∀ a : AxisId, (∀ p, (s.axis a).params = some p → paramsInRange p = true) →
      entryAt bs (axisOffset a) (passing paramsInRange (paramsAt bs (axisOffset a + 1))) =
        some (s.axis a).params) ∧
    (∀ p : PortId, (s.port p).active.doubled = false →
      slotsOf (u8At bs (portOffset p)) (u8At bs (portOffset p + 1)) = some (s.port p).active) ∧
    (∀ f : FlyerId, (∀ d, (s.flyer f).defn = some d → ∃ fields, flyerDefOf fields = some d) →
      entryAt bs (flyerOffset f) (flyerDefOf (flyerFieldsAt bs (flyerOffset f + 1))) = some (s.flyer f).defn) ∧
    (∀ n : FormationId, (∀ m, s.formation n = some m → ∃ fields, formationOf fields = some m) →
      entryAt bs (formationOffset n) (formationOf (formationFieldsAt bs (formationOffset n + 1))) =
        some (s.formation n)) ∧
    ∀ z : ZoneId, (∃ fields, zoneOf fields = some (s.zone z)) →
      zoneOf (zoneFieldsAt bs (zoneOffset z)) = some (s.zone z)

/-! ## Invariants -/

/-- The state right after reset meets every invariant. -/
def Obligations.ResetMeetsEveryInvariant : Prop :=
  Settled State.reset ∧ SlotsApart State.reset ∧ AllStopCalm State.reset ∧ Bounded State.reset ∧
    StoreSound State.reset ∧ MembersApart State.reset ∧ FormationsSound State.reset ∧ ReachPresent State.reset

/-- Every step leaves the alarm output as all-stop and the FAULTED flyers have it, and no marked flyer at rest for
grants (R169, R185). -/
def Obligations.EveryStepSettlesAlarmAndGrants : Prop := ∀ s t : State, Settled s → step s = .next t → Settled t

/-- No step maps an axis to two slots, or stages one twice in a table (R149, R151). -/
def Obligations.EveryStepKeepsAnAxisInOneSlot : Prop := ∀ s t : State, SlotsApart s → step s = .next t → SlotsApart t

/-- While all-stop is active no step brings a flyer into RELEASING, CUE_RUN, HOLDING, HELD or JOGGING (R163). -/
def Obligations.EveryStepKeepsAllStopCalm : Prop := ∀ s t : State, AllStopCalm s → step s = .next t → AllStopCalm t

/-- No step overfills the log, a response queue, a miss count, the record pool or the directory, and the directory stays
in order with no number twice (R64, R65, R136, R172, R175). -/
def Obligations.EveryStepKeepsTheStoresBounded : Prop :=
  ∀ s t : State, Bounded s ∧ StoreSound s → step s = .next t → Bounded t ∧ StoreSound t

/-- No step makes an axis a member of two flyers, or a flyer a member of two formations or twice of one (R31, R43). -/
def Obligations.EveryStepKeepsMembersApart : Prop :=
  ∀ s t : State, MembersApart s ∧ FormationsSound s → step s = .next t → MembersApart t ∧ FormationsSound t

/-- No step takes a cue out of the directory that the reach set of an active run holds (R77). -/
def Obligations.EveryStepKeepsReachedCues : Prop := ∀ s t : State, ReachPresent s → step s = .next t → ReachPresent t
end

