-- ==== Sys2Proof/Laws/State.lean ====
section
/-! SUPPORT. One lemma for each field and each update of the state. -/

namespace Sys2Proof.Machine

variable (s : State)

/-! ## setAxis -/

@[simp] theorem State.setAxis_startup (a : AxisId) (x : Axis) : (s.setAxis a x).startup = s.startup := rfl
@[simp] theorem State.setAxis_t (a : AxisId) (x : Axis) : (s.setAxis a x).t = s.t := rfl
@[simp] theorem State.setAxis_cfgT (a : AxisId) (x : Axis) : (s.setAxis a x).cfgT = s.cfgT := rfl
@[simp] theorem State.setAxis_cutoff (a : AxisId) (x : Axis) : (s.setAxis a x).cutoff = s.cutoff := rfl
@[simp] theorem State.setAxis_flyers (a : AxisId) (x : Axis) : (s.setAxis a x).flyers = s.flyers := rfl
@[simp] theorem State.setAxis_formations (a : AxisId) (x : Axis) : (s.setAxis a x).formations = s.formations := rfl
@[simp] theorem State.setAxis_grants (a : AxisId) (x : Axis) : (s.setAxis a x).grants = s.grants := rfl
@[simp] theorem State.setAxis_zones (a : AxisId) (x : Axis) : (s.setAxis a x).zones = s.zones := rfl
@[simp] theorem State.setAxis_dsep (a : AxisId) (x : Axis) : (s.setAxis a x).dsep = s.dsep := rfl
@[simp] theorem State.setAxis_dir (a : AxisId) (x : Axis) : (s.setAxis a x).dir = s.dir := rfl
@[simp] theorem State.setAxis_ports (a : AxisId) (x : Axis) : (s.setAxis a x).ports = s.ports := rfl
@[simp] theorem State.setAxis_allStop (a : AxisId) (x : Axis) : (s.setAxis a x).allStop = s.allStop := rfl
@[simp] theorem State.setAxis_cutCount (a : AxisId) (x : Axis) : (s.setAxis a x).cutCount = s.cutCount := rfl
@[simp] theorem State.setAxis_log (a : AxisId) (x : Axis) : (s.setAxis a x).log = s.log := rfl
@[simp] theorem State.setAxis_logMode (a : AxisId) (x : Axis) : (s.setAxis a x).logMode = s.logMode := rfl
@[simp] theorem State.setAxis_alarm (a : AxisId) (x : Axis) : (s.setAxis a x).alarm = s.alarm := rfl
@[simp] theorem State.setAxis_chainOpen (a : AxisId) (x : Axis) : (s.setAxis a x).chainOpen = s.chainOpen := rfl
@[simp] theorem State.setAxis_stationA (a : AxisId) (x : Axis) : (s.setAxis a x).stationA = s.stationA := rfl
@[simp] theorem State.setAxis_stationB (a : AxisId) (x : Axis) : (s.setAxis a x).stationB = s.stationB := rfl
@[simp] theorem State.setAxis_clock (a : AxisId) (x : Axis) : (s.setAxis a x).clock = s.clock := rfl
@[simp] theorem State.setAxis_image (a : AxisId) (x : Axis) : (s.setAxis a x).image = s.image := rfl
@[simp] theorem State.setAxis_saveStep (a : AxisId) (x : Axis) : (s.setAxis a x).saveStep = s.saveStep := rfl
@[simp] theorem State.setAxis_saveData (a : AxisId) (x : Axis) : (s.setAxis a x).saveData = s.saveData := rfl
@[simp] theorem State.setAxis_flash (a : AxisId) (x : Axis) : (s.setAxis a x).flash = s.flash := rfl
@[simp] theorem State.setAxis_free (a : AxisId) (x : Axis) : (s.setAxis a x).free = s.free := rfl
@[simp] theorem State.setAxis_pending (a : AxisId) (x : Axis) : (s.setAxis a x).pending = s.pending := rfl

/-! ## setFlyer -/

@[simp] theorem State.setFlyer_startup (f : FlyerId) (x : Flyer) : (s.setFlyer f x).startup = s.startup := rfl
@[simp] theorem State.setFlyer_t (f : FlyerId) (x : Flyer) : (s.setFlyer f x).t = s.t := rfl
@[simp] theorem State.setFlyer_cfgT (f : FlyerId) (x : Flyer) : (s.setFlyer f x).cfgT = s.cfgT := rfl
@[simp] theorem State.setFlyer_cutoff (f : FlyerId) (x : Flyer) : (s.setFlyer f x).cutoff = s.cutoff := rfl
@[simp] theorem State.setFlyer_axes (f : FlyerId) (x : Flyer) : (s.setFlyer f x).axes = s.axes := rfl
@[simp] theorem State.setFlyer_formations (f : FlyerId) (x : Flyer) : (s.setFlyer f x).formations = s.formations := rfl
@[simp] theorem State.setFlyer_grants (f : FlyerId) (x : Flyer) : (s.setFlyer f x).grants = s.grants := rfl
@[simp] theorem State.setFlyer_zones (f : FlyerId) (x : Flyer) : (s.setFlyer f x).zones = s.zones := rfl
@[simp] theorem State.setFlyer_dsep (f : FlyerId) (x : Flyer) : (s.setFlyer f x).dsep = s.dsep := rfl
@[simp] theorem State.setFlyer_dir (f : FlyerId) (x : Flyer) : (s.setFlyer f x).dir = s.dir := rfl
@[simp] theorem State.setFlyer_ports (f : FlyerId) (x : Flyer) : (s.setFlyer f x).ports = s.ports := rfl
@[simp] theorem State.setFlyer_allStop (f : FlyerId) (x : Flyer) : (s.setFlyer f x).allStop = s.allStop := rfl
@[simp] theorem State.setFlyer_cutCount (f : FlyerId) (x : Flyer) : (s.setFlyer f x).cutCount = s.cutCount := rfl
@[simp] theorem State.setFlyer_log (f : FlyerId) (x : Flyer) : (s.setFlyer f x).log = s.log := rfl
@[simp] theorem State.setFlyer_logMode (f : FlyerId) (x : Flyer) : (s.setFlyer f x).logMode = s.logMode := rfl
@[simp] theorem State.setFlyer_alarm (f : FlyerId) (x : Flyer) : (s.setFlyer f x).alarm = s.alarm := rfl
@[simp] theorem State.setFlyer_chainOpen (f : FlyerId) (x : Flyer) : (s.setFlyer f x).chainOpen = s.chainOpen := rfl
@[simp] theorem State.setFlyer_stationA (f : FlyerId) (x : Flyer) : (s.setFlyer f x).stationA = s.stationA := rfl
@[simp] theorem State.setFlyer_stationB (f : FlyerId) (x : Flyer) : (s.setFlyer f x).stationB = s.stationB := rfl
@[simp] theorem State.setFlyer_clock (f : FlyerId) (x : Flyer) : (s.setFlyer f x).clock = s.clock := rfl
@[simp] theorem State.setFlyer_image (f : FlyerId) (x : Flyer) : (s.setFlyer f x).image = s.image := rfl
@[simp] theorem State.setFlyer_saveStep (f : FlyerId) (x : Flyer) : (s.setFlyer f x).saveStep = s.saveStep := rfl
@[simp] theorem State.setFlyer_saveData (f : FlyerId) (x : Flyer) : (s.setFlyer f x).saveData = s.saveData := rfl
@[simp] theorem State.setFlyer_flash (f : FlyerId) (x : Flyer) : (s.setFlyer f x).flash = s.flash := rfl
@[simp] theorem State.setFlyer_free (f : FlyerId) (x : Flyer) : (s.setFlyer f x).free = s.free := rfl
@[simp] theorem State.setFlyer_pending (f : FlyerId) (x : Flyer) : (s.setFlyer f x).pending = s.pending := rfl

/-! ## setFormation -/

@[simp] theorem State.setFormation_startup (n : FormationId) (x : Option Formation) : (s.setFormation n x).startup = s.startup := rfl
@[simp] theorem State.setFormation_t (n : FormationId) (x : Option Formation) : (s.setFormation n x).t = s.t := rfl
@[simp] theorem State.setFormation_cfgT (n : FormationId) (x : Option Formation) : (s.setFormation n x).cfgT = s.cfgT := rfl
@[simp] theorem State.setFormation_cutoff (n : FormationId) (x : Option Formation) : (s.setFormation n x).cutoff = s.cutoff := rfl
@[simp] theorem State.setFormation_axes (n : FormationId) (x : Option Formation) : (s.setFormation n x).axes = s.axes := rfl
@[simp] theorem State.setFormation_flyers (n : FormationId) (x : Option Formation) : (s.setFormation n x).flyers = s.flyers := rfl
@[simp] theorem State.setFormation_grants (n : FormationId) (x : Option Formation) : (s.setFormation n x).grants = s.grants := rfl
@[simp] theorem State.setFormation_zones (n : FormationId) (x : Option Formation) : (s.setFormation n x).zones = s.zones := rfl
@[simp] theorem State.setFormation_dsep (n : FormationId) (x : Option Formation) : (s.setFormation n x).dsep = s.dsep := rfl
@[simp] theorem State.setFormation_dir (n : FormationId) (x : Option Formation) : (s.setFormation n x).dir = s.dir := rfl
@[simp] theorem State.setFormation_ports (n : FormationId) (x : Option Formation) : (s.setFormation n x).ports = s.ports := rfl
@[simp] theorem State.setFormation_allStop (n : FormationId) (x : Option Formation) : (s.setFormation n x).allStop = s.allStop := rfl
@[simp] theorem State.setFormation_cutCount (n : FormationId) (x : Option Formation) : (s.setFormation n x).cutCount = s.cutCount := rfl
@[simp] theorem State.setFormation_log (n : FormationId) (x : Option Formation) : (s.setFormation n x).log = s.log := rfl
@[simp] theorem State.setFormation_logMode (n : FormationId) (x : Option Formation) : (s.setFormation n x).logMode = s.logMode := rfl
@[simp] theorem State.setFormation_alarm (n : FormationId) (x : Option Formation) : (s.setFormation n x).alarm = s.alarm := rfl
@[simp] theorem State.setFormation_chainOpen (n : FormationId) (x : Option Formation) : (s.setFormation n x).chainOpen = s.chainOpen := rfl
@[simp] theorem State.setFormation_stationA (n : FormationId) (x : Option Formation) : (s.setFormation n x).stationA = s.stationA := rfl
@[simp] theorem State.setFormation_stationB (n : FormationId) (x : Option Formation) : (s.setFormation n x).stationB = s.stationB := rfl
@[simp] theorem State.setFormation_clock (n : FormationId) (x : Option Formation) : (s.setFormation n x).clock = s.clock := rfl
@[simp] theorem State.setFormation_image (n : FormationId) (x : Option Formation) : (s.setFormation n x).image = s.image := rfl
@[simp] theorem State.setFormation_saveStep (n : FormationId) (x : Option Formation) : (s.setFormation n x).saveStep = s.saveStep := rfl
@[simp] theorem State.setFormation_saveData (n : FormationId) (x : Option Formation) : (s.setFormation n x).saveData = s.saveData := rfl
@[simp] theorem State.setFormation_flash (n : FormationId) (x : Option Formation) : (s.setFormation n x).flash = s.flash := rfl
@[simp] theorem State.setFormation_free (n : FormationId) (x : Option Formation) : (s.setFormation n x).free = s.free := rfl
@[simp] theorem State.setFormation_pending (n : FormationId) (x : Option Formation) : (s.setFormation n x).pending = s.pending := rfl

/-! ## setGrant -/

@[simp] theorem State.setGrant_startup (f : FlyerId) (x : Grant) : (s.setGrant f x).startup = s.startup := rfl
@[simp] theorem State.setGrant_t (f : FlyerId) (x : Grant) : (s.setGrant f x).t = s.t := rfl
@[simp] theorem State.setGrant_cfgT (f : FlyerId) (x : Grant) : (s.setGrant f x).cfgT = s.cfgT := rfl
@[simp] theorem State.setGrant_cutoff (f : FlyerId) (x : Grant) : (s.setGrant f x).cutoff = s.cutoff := rfl
@[simp] theorem State.setGrant_axes (f : FlyerId) (x : Grant) : (s.setGrant f x).axes = s.axes := rfl
@[simp] theorem State.setGrant_flyers (f : FlyerId) (x : Grant) : (s.setGrant f x).flyers = s.flyers := rfl
@[simp] theorem State.setGrant_formations (f : FlyerId) (x : Grant) : (s.setGrant f x).formations = s.formations := rfl
@[simp] theorem State.setGrant_zones (f : FlyerId) (x : Grant) : (s.setGrant f x).zones = s.zones := rfl
@[simp] theorem State.setGrant_dsep (f : FlyerId) (x : Grant) : (s.setGrant f x).dsep = s.dsep := rfl
@[simp] theorem State.setGrant_dir (f : FlyerId) (x : Grant) : (s.setGrant f x).dir = s.dir := rfl
@[simp] theorem State.setGrant_ports (f : FlyerId) (x : Grant) : (s.setGrant f x).ports = s.ports := rfl
@[simp] theorem State.setGrant_allStop (f : FlyerId) (x : Grant) : (s.setGrant f x).allStop = s.allStop := rfl
@[simp] theorem State.setGrant_cutCount (f : FlyerId) (x : Grant) : (s.setGrant f x).cutCount = s.cutCount := rfl
@[simp] theorem State.setGrant_log (f : FlyerId) (x : Grant) : (s.setGrant f x).log = s.log := rfl
@[simp] theorem State.setGrant_logMode (f : FlyerId) (x : Grant) : (s.setGrant f x).logMode = s.logMode := rfl
@[simp] theorem State.setGrant_alarm (f : FlyerId) (x : Grant) : (s.setGrant f x).alarm = s.alarm := rfl
@[simp] theorem State.setGrant_chainOpen (f : FlyerId) (x : Grant) : (s.setGrant f x).chainOpen = s.chainOpen := rfl
@[simp] theorem State.setGrant_stationA (f : FlyerId) (x : Grant) : (s.setGrant f x).stationA = s.stationA := rfl
@[simp] theorem State.setGrant_stationB (f : FlyerId) (x : Grant) : (s.setGrant f x).stationB = s.stationB := rfl
@[simp] theorem State.setGrant_clock (f : FlyerId) (x : Grant) : (s.setGrant f x).clock = s.clock := rfl
@[simp] theorem State.setGrant_image (f : FlyerId) (x : Grant) : (s.setGrant f x).image = s.image := rfl
@[simp] theorem State.setGrant_saveStep (f : FlyerId) (x : Grant) : (s.setGrant f x).saveStep = s.saveStep := rfl
@[simp] theorem State.setGrant_saveData (f : FlyerId) (x : Grant) : (s.setGrant f x).saveData = s.saveData := rfl
@[simp] theorem State.setGrant_flash (f : FlyerId) (x : Grant) : (s.setGrant f x).flash = s.flash := rfl
@[simp] theorem State.setGrant_free (f : FlyerId) (x : Grant) : (s.setGrant f x).free = s.free := rfl
@[simp] theorem State.setGrant_pending (f : FlyerId) (x : Grant) : (s.setGrant f x).pending = s.pending := rfl

/-! ## setZone -/

@[simp] theorem State.setZone_startup (z : ZoneId) (x : Zone) : (s.setZone z x).startup = s.startup := rfl
@[simp] theorem State.setZone_t (z : ZoneId) (x : Zone) : (s.setZone z x).t = s.t := rfl
@[simp] theorem State.setZone_cfgT (z : ZoneId) (x : Zone) : (s.setZone z x).cfgT = s.cfgT := rfl
@[simp] theorem State.setZone_cutoff (z : ZoneId) (x : Zone) : (s.setZone z x).cutoff = s.cutoff := rfl
@[simp] theorem State.setZone_axes (z : ZoneId) (x : Zone) : (s.setZone z x).axes = s.axes := rfl
@[simp] theorem State.setZone_flyers (z : ZoneId) (x : Zone) : (s.setZone z x).flyers = s.flyers := rfl
@[simp] theorem State.setZone_formations (z : ZoneId) (x : Zone) : (s.setZone z x).formations = s.formations := rfl
@[simp] theorem State.setZone_grants (z : ZoneId) (x : Zone) : (s.setZone z x).grants = s.grants := rfl
@[simp] theorem State.setZone_dsep (z : ZoneId) (x : Zone) : (s.setZone z x).dsep = s.dsep := rfl
@[simp] theorem State.setZone_dir (z : ZoneId) (x : Zone) : (s.setZone z x).dir = s.dir := rfl
@[simp] theorem State.setZone_ports (z : ZoneId) (x : Zone) : (s.setZone z x).ports = s.ports := rfl
@[simp] theorem State.setZone_allStop (z : ZoneId) (x : Zone) : (s.setZone z x).allStop = s.allStop := rfl
@[simp] theorem State.setZone_cutCount (z : ZoneId) (x : Zone) : (s.setZone z x).cutCount = s.cutCount := rfl
@[simp] theorem State.setZone_log (z : ZoneId) (x : Zone) : (s.setZone z x).log = s.log := rfl
@[simp] theorem State.setZone_logMode (z : ZoneId) (x : Zone) : (s.setZone z x).logMode = s.logMode := rfl
@[simp] theorem State.setZone_alarm (z : ZoneId) (x : Zone) : (s.setZone z x).alarm = s.alarm := rfl
@[simp] theorem State.setZone_chainOpen (z : ZoneId) (x : Zone) : (s.setZone z x).chainOpen = s.chainOpen := rfl
@[simp] theorem State.setZone_stationA (z : ZoneId) (x : Zone) : (s.setZone z x).stationA = s.stationA := rfl
@[simp] theorem State.setZone_stationB (z : ZoneId) (x : Zone) : (s.setZone z x).stationB = s.stationB := rfl
@[simp] theorem State.setZone_clock (z : ZoneId) (x : Zone) : (s.setZone z x).clock = s.clock := rfl
@[simp] theorem State.setZone_image (z : ZoneId) (x : Zone) : (s.setZone z x).image = s.image := rfl
@[simp] theorem State.setZone_saveStep (z : ZoneId) (x : Zone) : (s.setZone z x).saveStep = s.saveStep := rfl
@[simp] theorem State.setZone_saveData (z : ZoneId) (x : Zone) : (s.setZone z x).saveData = s.saveData := rfl
@[simp] theorem State.setZone_flash (z : ZoneId) (x : Zone) : (s.setZone z x).flash = s.flash := rfl
@[simp] theorem State.setZone_free (z : ZoneId) (x : Zone) : (s.setZone z x).free = s.free := rfl
@[simp] theorem State.setZone_pending (z : ZoneId) (x : Zone) : (s.setZone z x).pending = s.pending := rfl

/-! ## setPort -/

@[simp] theorem State.setPort_startup (p : PortId) (x : Port) : (s.setPort p x).startup = s.startup := rfl
@[simp] theorem State.setPort_t (p : PortId) (x : Port) : (s.setPort p x).t = s.t := rfl
@[simp] theorem State.setPort_cfgT (p : PortId) (x : Port) : (s.setPort p x).cfgT = s.cfgT := rfl
@[simp] theorem State.setPort_cutoff (p : PortId) (x : Port) : (s.setPort p x).cutoff = s.cutoff := rfl
@[simp] theorem State.setPort_axes (p : PortId) (x : Port) : (s.setPort p x).axes = s.axes := rfl
@[simp] theorem State.setPort_flyers (p : PortId) (x : Port) : (s.setPort p x).flyers = s.flyers := rfl
@[simp] theorem State.setPort_formations (p : PortId) (x : Port) : (s.setPort p x).formations = s.formations := rfl
@[simp] theorem State.setPort_grants (p : PortId) (x : Port) : (s.setPort p x).grants = s.grants := rfl
@[simp] theorem State.setPort_zones (p : PortId) (x : Port) : (s.setPort p x).zones = s.zones := rfl
@[simp] theorem State.setPort_dsep (p : PortId) (x : Port) : (s.setPort p x).dsep = s.dsep := rfl
@[simp] theorem State.setPort_dir (p : PortId) (x : Port) : (s.setPort p x).dir = s.dir := rfl
@[simp] theorem State.setPort_allStop (p : PortId) (x : Port) : (s.setPort p x).allStop = s.allStop := rfl
@[simp] theorem State.setPort_cutCount (p : PortId) (x : Port) : (s.setPort p x).cutCount = s.cutCount := rfl
@[simp] theorem State.setPort_log (p : PortId) (x : Port) : (s.setPort p x).log = s.log := rfl
@[simp] theorem State.setPort_logMode (p : PortId) (x : Port) : (s.setPort p x).logMode = s.logMode := rfl
@[simp] theorem State.setPort_alarm (p : PortId) (x : Port) : (s.setPort p x).alarm = s.alarm := rfl
@[simp] theorem State.setPort_chainOpen (p : PortId) (x : Port) : (s.setPort p x).chainOpen = s.chainOpen := rfl
@[simp] theorem State.setPort_stationA (p : PortId) (x : Port) : (s.setPort p x).stationA = s.stationA := rfl
@[simp] theorem State.setPort_stationB (p : PortId) (x : Port) : (s.setPort p x).stationB = s.stationB := rfl
@[simp] theorem State.setPort_clock (p : PortId) (x : Port) : (s.setPort p x).clock = s.clock := rfl
@[simp] theorem State.setPort_image (p : PortId) (x : Port) : (s.setPort p x).image = s.image := rfl
@[simp] theorem State.setPort_saveStep (p : PortId) (x : Port) : (s.setPort p x).saveStep = s.saveStep := rfl
@[simp] theorem State.setPort_saveData (p : PortId) (x : Port) : (s.setPort p x).saveData = s.saveData := rfl
@[simp] theorem State.setPort_flash (p : PortId) (x : Port) : (s.setPort p x).flash = s.flash := rfl
@[simp] theorem State.setPort_free (p : PortId) (x : Port) : (s.setPort p x).free = s.free := rfl
@[simp] theorem State.setPort_pending (p : PortId) (x : Port) : (s.setPort p x).pending = s.pending := rfl

/-! ## setStation -/

@[simp] theorem State.setStation_startup (st : Station) (x : StationPort) : (s.setStation st x).startup = s.startup := by
  cases st <;> rfl
@[simp] theorem State.setStation_t (st : Station) (x : StationPort) : (s.setStation st x).t = s.t := by
  cases st <;> rfl
@[simp] theorem State.setStation_cfgT (st : Station) (x : StationPort) : (s.setStation st x).cfgT = s.cfgT := by
  cases st <;> rfl
@[simp] theorem State.setStation_cutoff (st : Station) (x : StationPort) : (s.setStation st x).cutoff = s.cutoff := by
  cases st <;> rfl
@[simp] theorem State.setStation_axes (st : Station) (x : StationPort) : (s.setStation st x).axes = s.axes := by
  cases st <;> rfl
@[simp] theorem State.setStation_flyers (st : Station) (x : StationPort) : (s.setStation st x).flyers = s.flyers := by
  cases st <;> rfl
@[simp] theorem State.setStation_formations (st : Station) (x : StationPort) : (s.setStation st x).formations = s.formations := by
  cases st <;> rfl
@[simp] theorem State.setStation_grants (st : Station) (x : StationPort) : (s.setStation st x).grants = s.grants := by
  cases st <;> rfl
@[simp] theorem State.setStation_zones (st : Station) (x : StationPort) : (s.setStation st x).zones = s.zones := by
  cases st <;> rfl
@[simp] theorem State.setStation_dsep (st : Station) (x : StationPort) : (s.setStation st x).dsep = s.dsep := by
  cases st <;> rfl
@[simp] theorem State.setStation_dir (st : Station) (x : StationPort) : (s.setStation st x).dir = s.dir := by
  cases st <;> rfl
@[simp] theorem State.setStation_ports (st : Station) (x : StationPort) : (s.setStation st x).ports = s.ports := by
  cases st <;> rfl
@[simp] theorem State.setStation_allStop (st : Station) (x : StationPort) : (s.setStation st x).allStop = s.allStop := by
  cases st <;> rfl
@[simp] theorem State.setStation_cutCount (st : Station) (x : StationPort) : (s.setStation st x).cutCount = s.cutCount := by
  cases st <;> rfl
@[simp] theorem State.setStation_log (st : Station) (x : StationPort) : (s.setStation st x).log = s.log := by
  cases st <;> rfl
@[simp] theorem State.setStation_logMode (st : Station) (x : StationPort) : (s.setStation st x).logMode = s.logMode := by
  cases st <;> rfl
@[simp] theorem State.setStation_alarm (st : Station) (x : StationPort) : (s.setStation st x).alarm = s.alarm := by
  cases st <;> rfl
@[simp] theorem State.setStation_chainOpen (st : Station) (x : StationPort) : (s.setStation st x).chainOpen = s.chainOpen := by
  cases st <;> rfl
@[simp] theorem State.setStation_clock (st : Station) (x : StationPort) : (s.setStation st x).clock = s.clock := by
  cases st <;> rfl
@[simp] theorem State.setStation_image (st : Station) (x : StationPort) : (s.setStation st x).image = s.image := by
  cases st <;> rfl
@[simp] theorem State.setStation_saveStep (st : Station) (x : StationPort) : (s.setStation st x).saveStep = s.saveStep := by
  cases st <;> rfl
@[simp] theorem State.setStation_saveData (st : Station) (x : StationPort) : (s.setStation st x).saveData = s.saveData := by
  cases st <;> rfl
@[simp] theorem State.setStation_flash (st : Station) (x : StationPort) : (s.setStation st x).flash = s.flash := by
  cases st <;> rfl
@[simp] theorem State.setStation_free (st : Station) (x : StationPort) : (s.setStation st x).free = s.free := by
  cases st <;> rfl
@[simp] theorem State.setStation_pending (st : Station) (x : StationPort) : (s.setStation st x).pending = s.pending := by
  cases st <;> rfl

/-! ## Reading after writing -/

theorem State.axis_setAxis (i j : AxisId) (x : Axis) : (s.setAxis i x).axis j = if i = j then x else s.axis j := by
  simp [State.axis, State.setAxis, Vector.getElem_set, Fin.ext_iff]

@[simp] theorem State.axis_setAxis_self (i : AxisId) (x : Axis) : (s.setAxis i x).axis i = x := by simp [State.axis_setAxis]

theorem State.axis_setAxis_ne (i j : AxisId) (x : Axis) (h : i ≠ j) : (s.setAxis i x).axis j = s.axis j := by
  simp [State.axis_setAxis, h]

@[simp] theorem State.axis_setFlyer (f : FlyerId) (x : Flyer) (j : AxisId) : (s.setFlyer f x).axis j = s.axis j := rfl
@[simp] theorem State.axis_setFormation (n : FormationId) (x : Option Formation) (j : AxisId) : (s.setFormation n x).axis j = s.axis j := rfl
@[simp] theorem State.axis_setGrant (f : FlyerId) (x : Grant) (j : AxisId) : (s.setGrant f x).axis j = s.axis j := rfl
@[simp] theorem State.axis_setZone (z : ZoneId) (x : Zone) (j : AxisId) : (s.setZone z x).axis j = s.axis j := rfl
@[simp] theorem State.axis_setPort (p : PortId) (x : Port) (j : AxisId) : (s.setPort p x).axis j = s.axis j := rfl
@[simp] theorem State.axis_setStation (st : Station) (x : StationPort) (j : AxisId) : (s.setStation st x).axis j = s.axis j := by
  cases st <;> rfl

theorem State.flyer_setFlyer (i j : FlyerId) (x : Flyer) : (s.setFlyer i x).flyer j = if i = j then x else s.flyer j := by
  simp [State.flyer, State.setFlyer, Vector.getElem_set, Fin.ext_iff]

@[simp] theorem State.flyer_setFlyer_self (i : FlyerId) (x : Flyer) : (s.setFlyer i x).flyer i = x := by simp [State.flyer_setFlyer]

theorem State.flyer_setFlyer_ne (i j : FlyerId) (x : Flyer) (h : i ≠ j) : (s.setFlyer i x).flyer j = s.flyer j := by
  simp [State.flyer_setFlyer, h]

@[simp] theorem State.flyer_setAxis (a : AxisId) (x : Axis) (j : FlyerId) : (s.setAxis a x).flyer j = s.flyer j := rfl
@[simp] theorem State.flyer_setFormation (n : FormationId) (x : Option Formation) (j : FlyerId) : (s.setFormation n x).flyer j = s.flyer j := rfl
@[simp] theorem State.flyer_setGrant (f : FlyerId) (x : Grant) (j : FlyerId) : (s.setGrant f x).flyer j = s.flyer j := rfl
@[simp] theorem State.flyer_setZone (z : ZoneId) (x : Zone) (j : FlyerId) : (s.setZone z x).flyer j = s.flyer j := rfl
@[simp] theorem State.flyer_setPort (p : PortId) (x : Port) (j : FlyerId) : (s.setPort p x).flyer j = s.flyer j := rfl
@[simp] theorem State.flyer_setStation (st : Station) (x : StationPort) (j : FlyerId) : (s.setStation st x).flyer j = s.flyer j := by
  cases st <;> rfl

theorem State.formation_setFormation (i j : FormationId) (x : Option Formation) : (s.setFormation i x).formation j = if i = j then x else s.formation j := by
  simp [State.formation, State.setFormation, Vector.getElem_set, Fin.ext_iff]

@[simp] theorem State.formation_setFormation_self (i : FormationId) (x : Option Formation) : (s.setFormation i x).formation i = x := by simp [State.formation_setFormation]

theorem State.formation_setFormation_ne (i j : FormationId) (x : Option Formation) (h : i ≠ j) : (s.setFormation i x).formation j = s.formation j := by
  simp [State.formation_setFormation, h]

@[simp] theorem State.formation_setAxis (a : AxisId) (x : Axis) (j : FormationId) : (s.setAxis a x).formation j = s.formation j := rfl
@[simp] theorem State.formation_setFlyer (f : FlyerId) (x : Flyer) (j : FormationId) : (s.setFlyer f x).formation j = s.formation j := rfl
@[simp] theorem State.formation_setGrant (f : FlyerId) (x : Grant) (j : FormationId) : (s.setGrant f x).formation j = s.formation j := rfl
@[simp] theorem State.formation_setZone (z : ZoneId) (x : Zone) (j : FormationId) : (s.setZone z x).formation j = s.formation j := rfl
@[simp] theorem State.formation_setPort (p : PortId) (x : Port) (j : FormationId) : (s.setPort p x).formation j = s.formation j := rfl
@[simp] theorem State.formation_setStation (st : Station) (x : StationPort) (j : FormationId) : (s.setStation st x).formation j = s.formation j := by
  cases st <;> rfl

theorem State.grant_setGrant (i j : FlyerId) (x : Grant) : (s.setGrant i x).grant j = if i = j then x else s.grant j := by
  simp [State.grant, State.setGrant, Vector.getElem_set, Fin.ext_iff]

@[simp] theorem State.grant_setGrant_self (i : FlyerId) (x : Grant) : (s.setGrant i x).grant i = x := by simp [State.grant_setGrant]

theorem State.grant_setGrant_ne (i j : FlyerId) (x : Grant) (h : i ≠ j) : (s.setGrant i x).grant j = s.grant j := by
  simp [State.grant_setGrant, h]

@[simp] theorem State.grant_setAxis (a : AxisId) (x : Axis) (j : FlyerId) : (s.setAxis a x).grant j = s.grant j := rfl
@[simp] theorem State.grant_setFlyer (f : FlyerId) (x : Flyer) (j : FlyerId) : (s.setFlyer f x).grant j = s.grant j := rfl
@[simp] theorem State.grant_setFormation (n : FormationId) (x : Option Formation) (j : FlyerId) : (s.setFormation n x).grant j = s.grant j := rfl
@[simp] theorem State.grant_setZone (z : ZoneId) (x : Zone) (j : FlyerId) : (s.setZone z x).grant j = s.grant j := rfl
@[simp] theorem State.grant_setPort (p : PortId) (x : Port) (j : FlyerId) : (s.setPort p x).grant j = s.grant j := rfl
@[simp] theorem State.grant_setStation (st : Station) (x : StationPort) (j : FlyerId) : (s.setStation st x).grant j = s.grant j := by
  cases st <;> rfl

theorem State.zone_setZone (i j : ZoneId) (x : Zone) : (s.setZone i x).zone j = if i = j then x else s.zone j := by
  simp [State.zone, State.setZone, Vector.getElem_set, Fin.ext_iff]

@[simp] theorem State.zone_setZone_self (i : ZoneId) (x : Zone) : (s.setZone i x).zone i = x := by simp [State.zone_setZone]

theorem State.zone_setZone_ne (i j : ZoneId) (x : Zone) (h : i ≠ j) : (s.setZone i x).zone j = s.zone j := by
  simp [State.zone_setZone, h]

@[simp] theorem State.zone_setAxis (a : AxisId) (x : Axis) (j : ZoneId) : (s.setAxis a x).zone j = s.zone j := rfl
@[simp] theorem State.zone_setFlyer (f : FlyerId) (x : Flyer) (j : ZoneId) : (s.setFlyer f x).zone j = s.zone j := rfl
@[simp] theorem State.zone_setFormation (n : FormationId) (x : Option Formation) (j : ZoneId) : (s.setFormation n x).zone j = s.zone j := rfl
@[simp] theorem State.zone_setGrant (f : FlyerId) (x : Grant) (j : ZoneId) : (s.setGrant f x).zone j = s.zone j := rfl
@[simp] theorem State.zone_setPort (p : PortId) (x : Port) (j : ZoneId) : (s.setPort p x).zone j = s.zone j := rfl
@[simp] theorem State.zone_setStation (st : Station) (x : StationPort) (j : ZoneId) : (s.setStation st x).zone j = s.zone j := by
  cases st <;> rfl

theorem State.port_setPort (i j : PortId) (x : Port) : (s.setPort i x).port j = if i = j then x else s.port j := by
  simp [State.port, State.setPort, Vector.getElem_set, Fin.ext_iff]

@[simp] theorem State.port_setPort_self (i : PortId) (x : Port) : (s.setPort i x).port i = x := by simp [State.port_setPort]

theorem State.port_setPort_ne (i j : PortId) (x : Port) (h : i ≠ j) : (s.setPort i x).port j = s.port j := by
  simp [State.port_setPort, h]

@[simp] theorem State.port_setAxis (a : AxisId) (x : Axis) (j : PortId) : (s.setAxis a x).port j = s.port j := rfl
@[simp] theorem State.port_setFlyer (f : FlyerId) (x : Flyer) (j : PortId) : (s.setFlyer f x).port j = s.port j := rfl
@[simp] theorem State.port_setFormation (n : FormationId) (x : Option Formation) (j : PortId) : (s.setFormation n x).port j = s.port j := rfl
@[simp] theorem State.port_setGrant (f : FlyerId) (x : Grant) (j : PortId) : (s.setGrant f x).port j = s.port j := rfl
@[simp] theorem State.port_setZone (z : ZoneId) (x : Zone) (j : PortId) : (s.setZone z x).port j = s.port j := rfl
@[simp] theorem State.port_setStation (st : Station) (x : StationPort) (j : PortId) : (s.setStation st x).port j = s.port j := by
  cases st <;> rfl

@[simp] theorem State.station_setAxis (a : AxisId) (x : Axis) (st : Station) : (s.setAxis a x).station st = s.station st := by
  cases st <;> rfl
@[simp] theorem State.station_setFlyer (f : FlyerId) (x : Flyer) (st : Station) : (s.setFlyer f x).station st = s.station st := by
  cases st <;> rfl
@[simp] theorem State.station_setFormation (n : FormationId) (x : Option Formation) (st : Station) : (s.setFormation n x).station st = s.station st := by
  cases st <;> rfl
@[simp] theorem State.station_setGrant (f : FlyerId) (x : Grant) (st : Station) : (s.setGrant f x).station st = s.station st := by
  cases st <;> rfl
@[simp] theorem State.station_setZone (z : ZoneId) (x : Zone) (st : Station) : (s.setZone z x).station st = s.station st := by
  cases st <;> rfl
@[simp] theorem State.station_setPort (p : PortId) (x : Port) (st : Station) : (s.setPort p x).station st = s.station st := by
  cases st <;> rfl

theorem State.station_setStation (st g : Station) (x : StationPort) :
    (s.setStation st x).station g = if st = g then x else s.station g := by
  cases st <;> cases g <;> rfl

@[simp] theorem State.station_setStation_self (st : Station) (x : StationPort) : (s.setStation st x).station st = x := by
  cases st <;> rfl

end Sys2Proof.Machine
end

