-- ==== Sys2Proof/Laws/Ops.lean ====
section
/-! SUPPORT. What the shared operations do, said once: which state an operation of the rig and the log leaves alone, that
it keeps every definition and the bound of the log, and that it keeps the calm of all-stop. Later proofs cite these
lemmas and do not unfold the operations. -/

namespace Sys2Proof.Machine

variable {s t u : State}

/-! ## The named changes of one record -/

@[simp] theorem flyer_modFlyer (f h : FlyerId) (g : Flyer → Flyer) (s : State) :
    (modFlyer f g s).flyer h = if f = h then g (s.flyer h) else s.flyer h := by
  unfold modFlyer
  rw [State.flyer_setFlyer]
  split
  · next e => rw [e]
  · rfl

@[simp] theorem axis_modAxis (x y : AxisId) (g : Axis → Axis) (s : State) :
    (modAxis x g s).axis y = if x = y then g (s.axis y) else s.axis y := by
  unfold modAxis
  rw [State.axis_setAxis]
  split
  · next e => rw [e]
  · rfl

@[simp] theorem port_modPort (p h : PortId) (g : Port → Port) (s : State) :
    (modPort p g s).port h = if p = h then g (s.port h) else s.port h := by
  unfold modPort
  rw [State.port_setPort]
  split
  · next e => rw [e]
  · rfl

@[simp] theorem station_modStation (x y : Station) (g : StationPort → StationPort) (s : State) :
    (modStation x g s).station y = if x = y then g (s.station y) else s.station y := by
  unfold modStation
  rw [State.station_setStation]
  split
  · next e => rw [e]
  · rfl

@[simp] theorem flyer_modAxis (a : AxisId) (g : Axis → Axis) (f : FlyerId) : (modAxis a g s).flyer f = s.flyer f := rfl

@[simp] theorem axis_modFlyer (f : FlyerId) (g : Flyer → Flyer) (a : AxisId) : (modFlyer f g s).axis a = s.axis a := rfl

/-! ## Sequences -/

@[simp] theorem forEach_nil {α : Type} (g : α → State → State) (s : State) : forEach [] g s = s := rfl

@[simp] theorem forEach_cons {α : Type} (x : α) (l : List α) (g : α → State → State) (s : State) :
    forEach (x :: l) g s = forEach l g (g x s) := rfl

/-- A sequence of changes of flyer records leaves every flyer that none of them names. -/
theorem flyer_forEach_modFlyer_of_notMem {α : Type} (key : α → FlyerId) (g : α → Flyer → Flyer) (h : FlyerId) (l : List α)
    (s : State) (m : h ∉ l.map key) : (forEach l (fun x => modFlyer (key x) (g x)) s).flyer h = s.flyer h := by
  induction l generalizing s with
  | nil => rfl
  | cons x l ih =>
    simp only [List.map_cons, List.mem_cons, not_or] at m
    rw [forEach_cons, ih _ m.2, flyer_modFlyer, if_neg (Ne.symm m.1)]

/-- A sequence of changes of flyer records that names each flyer once changes each as its own element says. -/
theorem flyer_forEach_modFlyer {α : Type} (key : α → FlyerId) (g : α → Flyer → Flyer) (l : List α) (s : State)
    (nd : (l.map key).Nodup) (x : α) (m : x ∈ l) :
    (forEach l (fun x => modFlyer (key x) (g x)) s).flyer (key x) = g x (s.flyer (key x)) := by
  induction l generalizing s with
  | nil => exact absurd m List.not_mem_nil
  | cons y l ih =>
    simp only [List.map_cons, List.nodup_cons] at nd
    rw [forEach_cons]
    rcases List.mem_cons.mp m with rfl | m
    · rw [flyer_forEach_modFlyer_of_notMem key g _ l _ nd.1, flyer_modFlyer, if_pos rfl]
    · rw [ih _ nd.2 m, flyer_modFlyer, if_neg fun e : key y = key x => nd.1 (e ▸ List.mem_map_of_mem m)]

/-- A sequence of changes of axis records leaves every axis that none of them names. -/
theorem axis_forEach_modAxis_of_notMem {α : Type} (key : α → AxisId) (g : α → Axis → Axis) (h : AxisId) (l : List α)
    (s : State) (m : h ∉ l.map key) : (forEach l (fun x => modAxis (key x) (g x)) s).axis h = s.axis h := by
  induction l generalizing s with
  | nil => rfl
  | cons x l ih =>
    simp only [List.map_cons, List.mem_cons, not_or] at m
    rw [forEach_cons, ih _ m.2, axis_modAxis, if_neg (Ne.symm m.1)]

/-- A sequence of changes of axis records that names each axis once changes each as its own element says. -/
theorem axis_forEach_modAxis {α : Type} (key : α → AxisId) (g : α → Axis → Axis) (l : List α) (s : State)
    (nd : (l.map key).Nodup) (x : α) (m : x ∈ l) :
    (forEach l (fun x => modAxis (key x) (g x)) s).axis (key x) = g x (s.axis (key x)) := by
  induction l generalizing s with
  | nil => exact absurd m List.not_mem_nil
  | cons y l ih =>
    simp only [List.map_cons, List.nodup_cons] at nd
    rw [forEach_cons]
    rcases List.mem_cons.mp m with rfl | m
    · rw [axis_forEach_modAxis_of_notMem key g _ l _ nd.1, axis_modAxis, if_pos rfl]
    · rw [ih _ nd.2 m, axis_modAxis, if_neg fun e : key y = key x => nd.1 (e ▸ List.mem_map_of_mem m)]

/-- A relation that holds of every single change, and that is reflexive and transitive, holds of the sequence. -/
theorem forEach_rel {α : Type} (R : State → State → Prop) (refl : ∀ s, R s s) (trans : ∀ s t u, R s t → R t u → R s u)
    (g : α → State → State) : ∀ (l : List α), (∀ x ∈ l, ∀ s, R s (g x s)) → ∀ s, R s (forEach l g s)
  | [], _, s => refl s
  | x :: l, h, s =>
    trans _ _ _ (h x List.mem_cons_self s)
      (forEach_rel R refl trans g l (fun y hy => h y (List.mem_cons_of_mem x hy)) (g x s))

/-- A property that every change of a sequence keeps holds after the sequence. -/
theorem forEach_keeps {α : Type} (P : State → Prop) (g : α → State → State) (l : List α) (s : State)
    (h : ∀ x ∈ l, ∀ s, P s → P (g x s)) : P s → P (forEach l g s) :=
  forEach_rel (fun s t => P s → P t) (fun _ => id) (fun _ _ _ h k => k ∘ h) g l h s

/-! ## Operations of the rig and the log -/

/-- Nothing but axes, flyers and log differs. -/
def RigLog (s t : State) : Prop := ∃ A F L, t = { s with axes := A, flyers := F, log := L }

theorem RigLog.refl (s : State) : RigLog s s := ⟨s.axes, s.flyers, s.log, rfl⟩

theorem RigLog.trans (h : RigLog s t) (k : RigLog t u) : RigLog s u := by
  obtain ⟨_, _, _, rfl⟩ := h
  obtain ⟨A, F, L, rfl⟩ := k
  exact ⟨A, F, L, rfl⟩

/-- What every operation of the rig and the log keeps: everything but axes, flyers and log, every flyer's definition,
and the bound of the log. -/
structure Tame (s t : State) : Prop where
  frame : RigLog s t
  defn : ∀ f, (t.flyer f).defn = (s.flyer f).defn
  log : s.log.length ≤ Config.logPlaces → t.log.length ≤ Config.logPlaces

theorem Tame.refl (s : State) : Tame s s := ⟨RigLog.refl s, fun _ => rfl, id⟩

theorem Tame.trans (h : Tame s t) (k : Tame t u) : Tame s u :=
  ⟨h.frame.trans k.frame, fun f => (k.defn f).trans (h.defn f), k.log ∘ h.log⟩

theorem Tame.forEach {α : Type} {g : α → State → State} (h : ∀ x s, Tame s (g x s)) (l : List α) (s : State) :
    Tame s (forEach l g s) :=
  forEach_rel Tame Tame.refl (fun _ _ _ => Tame.trans) g l (fun x _ => h x) s

theorem Tame.ite {c : Prop} [Decidable c] (h : Tame s t) (k : Tame s u) : Tame s (if c then t else u) := by
  split <;> assumption

/-- What a tame operation leaves unchanged, field by field. -/
theorem Tame.fields (h : Tame s t) :
    t.startup = s.startup ∧ t.ports = s.ports ∧ t.allStop = s.allStop ∧ t.dir = s.dir ∧ t.stationA = s.stationA ∧
      t.stationB = s.stationB ∧ t.formations = s.formations ∧ t.grants = s.grants ∧ t.pending = s.pending ∧
      t.zones = s.zones ∧ t.dsep = s.dsep ∧ t.logMode = s.logMode ∧ t.clock = s.clock ∧ t.alarm = s.alarm := by
  obtain ⟨_, _, _, rfl⟩ := h.frame
  exact ⟨rfl, rfl, rfl, rfl, rfl, rfl, rfl, rfl, rfl, rfl, rfl, rfl, rfl, rfl⟩

theorem modAxis_tame (a : AxisId) (g : Axis → Axis) (s : State) : Tame s (modAxis a g s) :=
  ⟨⟨_, _, _, rfl⟩, fun _ => rfl, id⟩

theorem modFlyer_tame (f : FlyerId) (g : Flyer → Flyer) (h : ∀ x, (g x).defn = x.defn) (s : State) :
    Tame s (modFlyer f g s) :=
  ⟨⟨_, _, _, rfl⟩, fun k => by rw [flyer_modFlyer]; split <;> simp [h], id⟩

theorem modRun_tame (f : FlyerId) (g : Run → Run) (s : State) : Tame s (modRun f g s) :=
  modFlyer_tame f _ (by intro _; rfl) s

theorem logAfter_length (mode : LogMode) (log : List LogEntry) (e : LogEntry) (h : log.length ≤ Config.logPlaces) :
    (logAfter mode log e).length ≤ Config.logPlaces := by
  have places : Config.logPlaces = 24 := rfl
  unfold logAfter
  split <;> (try split) <;>
    (try simp only [List.length_append, List.length_tail, List.length_cons, List.length_nil]) <;> omega

theorem logEntry_tame (e : LogEntry) (s : State) : Tame s (logEntry e s) :=
  ⟨⟨_, _, _, rfl⟩, fun _ => rfl, logAfter_length _ _ _⟩

theorem logCause_tame (c : Cause) (cls : FaultClass) (f : Option FlyerId) (s : State) : Tame s (logCause c cls f s) :=
  logEntry_tame _ s

theorem setStates_tame (fs : List FlyerId) (st : FlyerState) (s : State) : Tame s (setStates fs st s) :=
  Tame.forEach (fun _ => modFlyer_tame _ _ (by intro _; rfl)) fs s

theorem disengage_tame (f : FlyerId) (s : State) : Tame s (disengage f s) :=
  Tame.forEach (fun _ => modAxis_tame _ _) _ s

theorem engage_tame (f : FlyerId) (s : State) : Tame s (engage f s) := by
  unfold engage
  split
  · exact Tame.forEach (fun _ => modAxis_tame _ _) _ s
  · exact Tame.refl s

theorem leaveRun_tame (f : FlyerId) (st : FlyerState) (s : State) : Tame s (leaveRun f st s) :=
  Tame.forEach (fun _ _ => (modFlyer_tame _ _ (by intro _; rfl) _).trans (disengage_tame _ _)) _ s

theorem readiness_tame (f : FlyerId) (s : State) : Tame s (readiness f s) := by
  unfold readiness
  split <;> first | exact Tame.refl s | exact modFlyer_tame _ _ (by intro _; rfl) s

theorem dropLocated_tame (f : FlyerId) (s : State) : Tame s (modFlyer f dropLocated s) := modFlyer_tame _ _ (by intro _; rfl) s

theorem faultAtRest_tame (f : FlyerId) (c : Cause) (s : State) : Tame s (faultAtRest f c s) :=
  (modFlyer_tame _ _ (by intro _; rfl) s).trans (disengage_tame _ _)

theorem deadStop_tame (f : FlyerId) (c : Cause) (s : State) : Tame s (deadStop f c s) := modFlyer_tame _ _ (by intro _; rfl) s

theorem controlledStop_tame (f : FlyerId) (c : Cause) (s : State) : Tame s (controlledStop f c s) :=
  modFlyer_tame _ _ (by intro _; rfl) s

theorem hitFlyer_tame (v : Bool) (cls : FaultClass) (cl : Bool) (c : Cause) (f : FlyerId) (s : State) :
    Tame s (hitFlyer v cls cl c f s) := by
  have base : Tame s (if cl = true then modFlyer f dropLocated s else s) :=
    Tame.ite (dropLocated_tame f s) (Tame.refl s)
  refine base.trans ?_
  unfold hitFlyer
  generalize (if cl = true then modFlyer f dropLocated s else s) = r
  have rest : Tame r (readiness f (modFlyer f (fun x => { x with state := .unready }) r)) :=
    (modFlyer_tame _ _ (by intro _; rfl) r).trans (readiness_tame _ _)
  dsimp only
  split <;> (try split) <;>
    first
      | exact Tame.refl r
      | exact rest
      | exact faultAtRest_tame f c r
      | exact deadStop_tame f c r
      | exact controlledStop_tame f c r

theorem takeFault_tame (v : Bool) (cls : FaultClass) (c : Cause) (f : FlyerId) (s : State) :
    Tame s (takeFault v cls c f s) := by
  have one : Tame s (hitFlyer v cls c.code.clearsLocated c f (logCause c cls (some f) s)) :=
    (logCause_tame _ _ _ s).trans (hitFlyer_tame _ _ _ _ _ _)
  unfold takeFault
  dsimp only
  split
  · exact one
  · exact one.trans (Tame.forEach (fun _ _ => (logCause_tame _ _ _ _).trans (hitFlyer_tame _ _ _ _ _ _)) _ _)

theorem axisFault_tame (code : FaultCode) (d : Detail) (a : AxisId) (s : State) : Tame s (axisFault code d a s) := by
  unfold axisFault
  dsimp only
  split
  · exact logCause_tame _ _ _ s
  · split
    · exact (modAxis_tame _ _ s).trans (logCause_tame _ _ _ _)
    · exact (modAxis_tame _ _ s).trans (takeFault_tame _ _ _ _ _)

theorem allStopFlyer_tame (c : Cause) (f : FlyerId) (s : State) : Tame s (allStopFlyer c f s) := by
  unfold allStopFlyer
  split <;> first | exact Tame.refl s | exact faultAtRest_tame f c s | exact modFlyer_tame _ _ (by intro _; rfl) s

theorem releaseEnableOn_tame (f : FlyerId) (s : State) : Tame s (releaseEnableOn f s) := by
  unfold releaseEnableOn
  split <;>
    first | exact Tame.refl s | exact leaveRun_tame _ _ s | exact setStates_tame _ _ s | exact modRun_tame _ _ s

theorem enableRelease_tame (st : Station) (s : State) : Tame s (enableRelease st s) :=
  Tame.forEach (fun _ _ => Tame.ite (releaseEnableOn_tame _ _) (Tame.refl _)) _ s

/-! ## The calm of all-stop -/

/-- Where no flyer is in motion or may enter it, none is afterwards (R163). -/
def CalmKept (s t : State) : Prop := (∀ f, (s.flyer f).state.calm = true) → ∀ f, (t.flyer f).state.calm = true

theorem CalmKept.refl (s : State) : CalmKept s s := id

theorem CalmKept.trans (h : CalmKept s t) (k : CalmKept t u) : CalmKept s u := k ∘ h

theorem CalmKept.forEach {α : Type} {g : α → State → State} (h : ∀ x s, CalmKept s (g x s)) (l : List α) (s : State) :
    CalmKept s (forEach l g s) :=
  forEach_rel CalmKept CalmKept.refl (fun _ _ _ => CalmKept.trans) g l (fun x _ => h x) s

theorem CalmKept.of_flyers (h : t.flyers = s.flyers) : CalmKept s t := fun k f => by
  have e : t.flyer f = s.flyer f := by simp only [State.flyer, h]
  rw [e]
  exact k f

theorem modFlyer_calm (f : FlyerId) (g : Flyer → Flyer) (h : ∀ x, x.state.calm = true → (g x).state.calm = true)
    (s : State) : CalmKept s (modFlyer f g s) := fun k j => by
  rw [flyer_modFlyer]
  split
  · exact h _ (k j)
  · exact k j

theorem modAxis_calm (a : AxisId) (g : Axis → Axis) (s : State) : CalmKept s (modAxis a g s) := CalmKept.of_flyers rfl

theorem logCause_calm (c : Cause) (cls : FaultClass) (f : Option FlyerId) (s : State) :
    CalmKept s (logCause c cls f s) := CalmKept.of_flyers rfl

theorem setStates_calm (fs : List FlyerId) {st : FlyerState} (h : st.calm = true) (s : State) :
    CalmKept s (setStates fs st s) :=
  CalmKept.forEach (fun _ => modFlyer_calm _ _ (by intro _ _; exact h)) fs s

theorem disengage_calm (f : FlyerId) (s : State) : CalmKept s (disengage f s) :=
  CalmKept.forEach (fun _ => modAxis_calm _ _) _ s

theorem leaveRun_calm (f : FlyerId) {st : FlyerState} (h : st.calm = true) (s : State) :
    CalmKept s (leaveRun f st s) :=
  CalmKept.forEach (fun _ _ => (modFlyer_calm _ _ (by intro _ _; exact h) _).trans (disengage_calm _ _)) _ s

theorem readiness_calm (f : FlyerId) (s : State) : CalmKept s (readiness f s) := by
  unfold readiness
  split <;>
    first
      | exact CalmKept.refl s
      | (refine modFlyer_calm _ _ (fun x _ => ?_) s; dsimp only; split <;> (try split) <;> rfl)

theorem faultAtRest_calm (f : FlyerId) (c : Cause) (s : State) : CalmKept s (faultAtRest f c s) :=
  (modFlyer_calm _ _ (by intro _ _; rfl) s).trans (disengage_calm _ _)

theorem hitFlyer_calm (v : Bool) (cls : FaultClass) (cl : Bool) (c : Cause) (f : FlyerId) (s : State) :
    CalmKept s (hitFlyer v cls cl c f s) := by
  have base : CalmKept s (if cl = true then modFlyer f dropLocated s else s) := by
    split
    · exact modFlyer_calm _ _ (by intro _ k; exact k) s
    · exact CalmKept.refl s
  refine base.trans ?_
  unfold hitFlyer
  generalize (if cl = true then modFlyer f dropLocated s else s) = r
  have rest : CalmKept r (readiness f (modFlyer f (fun x => { x with state := .unready }) r)) :=
    (modFlyer_calm _ _ (by intro _ _; rfl) r).trans (readiness_calm _ _)
  have dead : CalmKept r (deadStop f c r) := modFlyer_calm _ _ (by intro _ _; rfl) r
  have soft : CalmKept r (controlledStop f c r) := modFlyer_calm _ _ (by intro _ _; rfl) r
  dsimp only
  split <;> (try split) <;>
    first
      | exact CalmKept.refl r
      | exact rest
      | exact faultAtRest_calm f c r
      | exact dead
      | exact soft

theorem takeFault_calm (v : Bool) (cls : FaultClass) (c : Cause) (f : FlyerId) (s : State) :
    CalmKept s (takeFault v cls c f s) := by
  have one : CalmKept s (hitFlyer v cls c.code.clearsLocated c f (logCause c cls (some f) s)) :=
    (logCause_calm _ _ _ s).trans (hitFlyer_calm _ _ _ _ _ _)
  unfold takeFault
  dsimp only
  split
  · exact one
  · exact one.trans (CalmKept.forEach (fun _ _ => (logCause_calm _ _ _ _).trans (hitFlyer_calm _ _ _ _ _ _)) _ _)

theorem axisFault_calm (code : FaultCode) (d : Detail) (a : AxisId) (s : State) : CalmKept s (axisFault code d a s) := by
  unfold axisFault
  dsimp only
  split
  · exact logCause_calm _ _ _ s
  · split
    · exact (modAxis_calm _ _ s).trans (logCause_calm _ _ _ _)
    · exact (modAxis_calm _ _ s).trans (takeFault_calm _ _ _ _ _)

theorem releaseEnableOn_calm (f : FlyerId) (s : State) : CalmKept s (releaseEnableOn f s) := fun k => by
  have h := k f
  unfold releaseEnableOn
  split <;> rename_i e <;> first | exact k | (rw [e] at h; exact absurd h (by decide))

theorem enableRelease_calm (st : Station) (s : State) : CalmKept s (enableRelease st s) :=
  CalmKept.forEach (fun _ _ => by
    split
    · exact releaseEnableOn_calm _ _
    · exact CalmKept.refl _) _ s

/-! ## The end of an event -/

@[simp] theorem grant_settleGrant (f h : FlyerId) (s : State) :
    (settleGrant f s).grant h =
      if f = h ∧ (s.grant h).mark = true ∧ allRestForGrants s h = true then Grant.initial else s.grant h := by
  unfold settleGrant
  by_cases e : f = h
  · subst e
    by_cases m : (s.grant f).mark = true <;> by_cases r : allRestForGrants s f = true <;> simp [m, r]
  · by_cases m : ((s.grant f).mark && allRestForGrants s f) = true <;> simp [m, e, State.grant_setGrant]

/-- Only grants and alarm differ. -/
theorem finish_shape (s : State) : ∃ G, finish s = { s with grants := G, alarm := alarmLine s } := by
  have one : ∀ f s, ∃ G, settleGrant f s = { s with grants := G } := fun f s => by
    unfold settleGrant
    split
    · exact ⟨_, rfl⟩
    · exact ⟨s.grants, rfl⟩
  have all : ∃ G, forEach allFlyers settleGrant s = { s with grants := G } :=
    forEach_rel (fun s t => ∃ G, t = { s with grants := G }) (fun s => ⟨s.grants, rfl⟩)
      (by rintro a b c ⟨G, rfl⟩ ⟨H, rfl⟩; exact ⟨H, rfl⟩) settleGrant allFlyers (fun f _ => one f) s
  obtain ⟨G, h⟩ := all
  refine ⟨G, ?_⟩
  unfold finish
  dsimp only
  rw [h]
  rfl

end Sys2Proof.Machine
end

