-- ==== Sys2Proof/WellFormed.lean ====
section
/-! DEFINITION. Which commands can be sent at all: every operand fits the field that carries it (R200, R201, R203,
R204, R205). The machine gives every term of `Instr` a meaning; this check says which of them a frame can spell. -/

namespace Sys2Proof

/-- Fits an unsigned field of one byte. -/
def fitsU8 (n : Nat) : Bool := decide (n < 256)

/-- Fits an unsigned field of two bytes. -/
def fitsU16 (n : Nat) : Bool := decide (n < 65536)

/-- Fits a signed field of two bytes. -/
def fitsI16 (n : Int) : Bool := decide (-32768 ≤ n ∧ n ≤ 32767)

/-- Fits a signed field of three bytes. -/
def fitsI24 (n : Int) : Bool := decide (-8388608 ≤ n ∧ n ≤ 8388607)

/-- Fits a signed field of four bytes. -/
def fitsI32 (n : Int) : Bool := decide (-2147483648 ≤ n ∧ n ≤ 2147483647)

/-- Three i16 fields. -/
def Vec3.fits16 (v : Vec3) : Bool := fitsI16 v.x && fitsI16 v.y && fitsI16 v.z

/-- Three i32 fields. -/
def Vec3.fits32 (v : Vec3) : Bool := fitsI32 v.x && fitsI32 v.y && fitsI32 v.z

/-- The tag is one byte. -/
def Req.wf (q : Req) : Bool := fitsU8 q.tag

/-- Each parameter fits its field of the SET_AXIS request (R205). -/
def AxisParams.wf (p : AxisParams) : Bool :=
  p.anchor.fits16 && fitsU16 p.l0 && fitsU16 p.k && fitsU16 p.lmin && fitsU16 p.lmax && fitsU16 p.vline &&
    fitsU16 p.feLimit && fitsU16 p.loadMax && fitsU16 p.slackMin

/-- Each field of SET_FLYER fits, and the frame carries four member bytes. -/
def FlyerFields.wf (d : FlyerFields) : Bool :=
  fitsU8 d.count && decide (d.members.length = 4) && d.members.all fitsU8 && fitsU16 d.vp && fitsU16 d.ap &&
    fitsU16 d.astop && fitsU16 d.drop && fitsU16 d.tol && d.vmin.fits16 && d.vmax.fits16

/-- Each field of SET_FORMATION fits, and the frame carries three follower entries. -/
def FormationFields.wf (d : FormationFields) : Bool :=
  fitsU8 d.leader && fitsU8 d.count && decide (d.followers.length = 3) &&
    d.followers.all fun e => fitsU8 e.1 && e.2.fits16

/-- Each field of SET_ZONE fits. -/
def ZoneFields.wf (d : ZoneFields) : Bool := fitsU8 d.enabled && d.vmin.fits16 && d.vmax.fits16 && fitsU8 d.mask

/-- Each field of a cue record fits its bytes (R204). -/
def CueRecord.wf (r : CueRecord) : Bool :=
  fitsU8 r.kind && fitsU8 r.flags && fitsU16 r.w2 && fitsU16 r.w4 && r.pos.fits32

/-- Each field of CUE_SEGMENT fits, and no more than eight records stand in a frame of 157 bytes (R201). -/
def SegmentFields.wf (g : SegmentFields) : Bool :=
  fitsU8 g.num && fitsU8 g.total && fitsU8 g.kind && fitsU8 g.index && decide (g.recs.length ≤ 8) &&
    g.recs.all CueRecord.wf

/-- Each value fits its place of the feedback frame (R203). -/
def Feedback.wf (fb : Feedback) : Bool := fitsI24 fb.counts && fitsU16 fb.load

/-- Every operand of the command fits the field that carries it. -/
def Instr.wf : Instr → Bool
  | .readStatus q => q.wf
  | .readFlyer q n => q.wf && fitsU8 n
  | .readAxis q n => q.wf && fitsU8 n
  | .readZone q n => q.wf && fitsU8 n
  | .readCue q c i => q.wf && fitsU8 c && fitsU8 i
  | .readLog q i => q.wf && fitsU8 i
  | .readCounters q => q.wf
  | .claimFlyer q n => q.wf && fitsU8 n
  | .releaseFlyer q n => q.wf && fitsU8 n
  | .setAxis q n p => q.wf && fitsU8 n && p.wf
  | .setFlyer q n d => q.wf && fitsU8 n && d.wf
  | .clearFlyer q n => q.wf && fitsU8 n
  | .setFormation q n d => q.wf && fitsU8 n && d.wf
  | .clearFormation q n => q.wf && fitsU8 n
  | .locate q n p => q.wf && fitsU8 n && p.fits32
  | .setZone q n d => q.wf && fitsU8 n && d.wf
  | .setSeparation q d => q.wf && fitsU16 d
  | .writeSlots q n a0 a1 => q.wf && fitsU8 n && fitsU8 a0 && fitsU8 a1
  | .swapSlots q n => q.wf && fitsU8 n
  | .cueSegment q g => q.wf && g.wf
  | .deleteCue q c => q.wf && fitsU8 c
  | .startCue q n c => q.wf && fitsU8 n && fitsU8 c
  | .hold q n => q.wf && fitsU8 n
  | .resume q n => q.wf && fitsU8 n
  | .go q n => q.wf && fitsU8 n
  | .stopFlyer q n => q.wf && fitsU8 n
  | .jog q n v => q.wf && fitsU8 n && v.fits16
  | .stopAll q => q.wf
  | .releaseAllStop q => q.wf
  | .raiseAlarm q n c m => q.wf && fitsU8 n && fitsU8 c && fitsU8 m
  | .clearFault q n => q.wf && fitsU8 n
  | .clearAxis q n => q.wf && fitsU8 n
  | .setLogMode q m => q.wf && fitsU8 m
  | .clearLog q => q.wf
  | .setTiming q t c => q.wf && fitsU8 t && fitsU16 c
  | .saveConfig q => q.wf
  | .unknownRequest q c => q.wf && fitsU8 c && !Config.requestCodes.contains c
  | .stationFrameDiscarded _ => true
  | .responseQueueFull _ _ => true
  | .responseSent _ => true
  | .silenceTimerExpiry _ => true
  | .motionFrame => true
  | .feedbackFrame _ e f0 f1 => fitsU8 e && f0.wf && f1.wf
  | .feedbackDiscarded _ => true
  | .feedbackLost _ => true
  | .brakeTimeout _ => true
  | .dwellEnd _ => true
  | .jogValidityExpiry _ => true
  | .cutoff => true
  | .estopChain => true
  | .stopChainClosed => true
  | .powerOnReset => true
  | .warmReset => true
  | .startUpEnd _ => true
  | .flashOperationDone data => decide (data.length = Config.imageBytes)
  | .saveBusyTimeout => true
  | .showClockTick => true

end Sys2Proof
end

