-- ==== Sys2Proof/Laws/PerInstr.lean ====
section
/-! SUPPORT. The statements about every command as syntax, one lemma for each constructor of `Instr`. -/

/-! ## No word of the table spells a command -/

/-- No word of spec/opcode_table.json, which gives no row any bits, spells the command. -/
def Sys2Proof.Laws.WordFree.Statement (i : Sys2Proof.Instr) : Prop :=
  ∀ nbits w, Sys2Proof.decodeTableWord nbits w ≠ some i

namespace Sys2Proof.Laws.WordFree

/-- The table decoder answers no command at all. -/
theorem of_any (i : Sys2Proof.Instr) : Statement i := fun _ _ h => nomatch h

theorem readStatus (q : Req) : Statement (.readStatus q) := of_any _
theorem readFlyer (q : Req) (flyer : Nat) : Statement (.readFlyer q flyer) := of_any _
theorem readAxis (q : Req) (axis : Nat) : Statement (.readAxis q axis) := of_any _
theorem readZone (q : Req) (zone : Nat) : Statement (.readZone q zone) := of_any _
theorem readCue (q : Req) (cue : Nat) (start : Nat) : Statement (.readCue q cue start) := of_any _
theorem readLog (q : Req) (start : Nat) : Statement (.readLog q start) := of_any _
theorem readCounters (q : Req) : Statement (.readCounters q) := of_any _
theorem claimFlyer (q : Req) (flyer : Nat) : Statement (.claimFlyer q flyer) := of_any _
theorem releaseFlyer (q : Req) (flyer : Nat) : Statement (.releaseFlyer q flyer) := of_any _
theorem setAxis (q : Req) (axis : Nat) (params : AxisParams) : Statement (.setAxis q axis params) := of_any _
theorem setFlyer (q : Req) (flyer : Nat) (fields : FlyerFields) : Statement (.setFlyer q flyer fields) := of_any _
theorem clearFlyer (q : Req) (flyer : Nat) : Statement (.clearFlyer q flyer) := of_any _
theorem setFormation (q : Req) (formation : Nat) (fields : FormationFields) : Statement (.setFormation q formation fields) := of_any _
theorem clearFormation (q : Req) (formation : Nat) : Statement (.clearFormation q formation) := of_any _
theorem locate (q : Req) (flyer : Nat) (point : Vec3) : Statement (.locate q flyer point) := of_any _
theorem setZone (q : Req) (zone : Nat) (fields : ZoneFields) : Statement (.setZone q zone fields) := of_any _
theorem setSeparation (q : Req) (dsep : Nat) : Statement (.setSeparation q dsep) := of_any _
theorem writeSlots (q : Req) (port : Nat) (slot0 : Nat) (slot1 : Nat) : Statement (.writeSlots q port slot0 slot1) := of_any _
theorem swapSlots (q : Req) (port : Nat) : Statement (.swapSlots q port) := of_any _
theorem cueSegment (q : Req) (seg : SegmentFields) : Statement (.cueSegment q seg) := of_any _
theorem deleteCue (q : Req) (cue : Nat) : Statement (.deleteCue q cue) := of_any _
theorem startCue (q : Req) (flyer : Nat) (cue : Nat) : Statement (.startCue q flyer cue) := of_any _
theorem hold (q : Req) (flyer : Nat) : Statement (.hold q flyer) := of_any _
theorem resume (q : Req) (flyer : Nat) : Statement (.resume q flyer) := of_any _
theorem go (q : Req) (flyer : Nat) : Statement (.go q flyer) := of_any _
theorem stopFlyer (q : Req) (flyer : Nat) : Statement (.stopFlyer q flyer) := of_any _
theorem jog (q : Req) (flyer : Nat) (velocity : Vec3) : Statement (.jog q flyer velocity) := of_any _
theorem stopAll (q : Req) : Statement (.stopAll q) := of_any _
theorem releaseAllStop (q : Req) : Statement (.releaseAllStop q) := of_any _
theorem raiseAlarm (q : Req) (number : Nat) (cls : Nat) (flyer : Nat) : Statement (.raiseAlarm q number cls flyer) := of_any _
theorem clearFault (q : Req) (flyer : Nat) : Statement (.clearFault q flyer) := of_any _
theorem clearAxis (q : Req) (axis : Nat) : Statement (.clearAxis q axis) := of_any _
theorem setLogMode (q : Req) (mode : Nat) : Statement (.setLogMode q mode) := of_any _
theorem clearLog (q : Req) : Statement (.clearLog q) := of_any _
theorem setTiming (q : Req) (period : Nat) (cutoff : Nat) : Statement (.setTiming q period cutoff) := of_any _
theorem saveConfig (q : Req) : Statement (.saveConfig q) := of_any _
theorem unknownRequest (q : Req) (code : Nat) : Statement (.unknownRequest q code) := of_any _
theorem stationFrameDiscarded (st : Station) : Statement (.stationFrameDiscarded st) := of_any _
theorem responseQueueFull (st : Station) (enable : Bool) : Statement (.responseQueueFull st enable) := of_any _
theorem responseSent (st : Station) : Statement (.responseSent st) := of_any _
theorem silenceTimerExpiry (st : Station) : Statement (.silenceTimerExpiry st) := of_any _
theorem motionFrame : Statement (.motionFrame) := of_any _
theorem feedbackFrame (port : PortId) (echo : Nat) (slot0 : Feedback) (slot1 : Feedback) : Statement (.feedbackFrame port echo slot0 slot1) := of_any _
theorem feedbackDiscarded (port : PortId) : Statement (.feedbackDiscarded port) := of_any _
theorem feedbackLost (port : PortId) : Statement (.feedbackLost port) := of_any _
theorem brakeTimeout (flyer : FlyerId) : Statement (.brakeTimeout flyer) := of_any _
theorem dwellEnd (flyer : FlyerId) : Statement (.dwellEnd flyer) := of_any _
theorem jogValidityExpiry (flyer : FlyerId) : Statement (.jogValidityExpiry flyer) := of_any _
theorem cutoff : Statement (.cutoff) := of_any _
theorem estopChain : Statement (.estopChain) := of_any _
theorem stopChainClosed : Statement (.stopChainClosed) := of_any _
theorem powerOnReset : Statement (.powerOnReset) := of_any _
theorem warmReset : Statement (.warmReset) := of_any _
theorem startUpEnd (answers : Bool) : Statement (.startUpEnd answers) := of_any _
theorem flashOperationDone (data : List Byte) : Statement (.flashOperationDone data) := of_any _
theorem saveBusyTimeout : Statement (.saveBusyTimeout) := of_any _
theorem showClockTick : Statement (.showClockTick) := of_any _

end Sys2Proof.Laws.WordFree

/-! ## The code of a request -/

/-- A request whose operands fit their fields carries a tag and a code of one byte each, and the code is one of those
that name a request, but for the request that names none (R177, R201). -/
def Sys2Proof.Laws.CodedRequest.Statement (i : Sys2Proof.Instr) : Prop :=
  ∀ q code, Sys2Proof.Machine.asRequest i = some (q, code) → i.wf = true →
    q.wf = true ∧ code < 256 ∧
      (code ∈ Sys2Proof.Config.requestCodes ↔ ∀ r c, i ≠ Sys2Proof.Instr.unknownRequest r c)

namespace Sys2Proof.Laws.CodedRequest

open Sys2Proof Sys2Proof.Machine

/-- A command that is no request. -/
theorem of_event {i : Instr} (h : asRequest i = none) : Statement i := by
  intro q c e
  rw [h] at e
  cases e

/-- A request with a code of the table, whose check includes that of its tag. -/
theorem of_request {i : Instr} {r : Req} {k : Nat} (h : asRequest i = some (r, k)) (w : i.wf = true → r.wf = true)
    (m : k ∈ Config.requestCodes) (u : ∀ r c, i ≠ .unknownRequest r c) : Statement i := by
  intro q c e hw
  rw [h] at e
  obtain ⟨rfl, rfl⟩ : r = q ∧ k = c := by simpa using e
  have hb : ∀ x ∈ Config.requestCodes, x < 256 := by decide
  exact ⟨w hw, hb _ m, fun _ => u, fun _ => m⟩

theorem readStatus (q : Req) : Statement (.readStatus q) :=
  of_request (r := q) rfl (by simp_all [Instr.wf]) (by decide) (by simp)
theorem readFlyer (q : Req) (flyer : Nat) : Statement (.readFlyer q flyer) :=
  of_request (r := q) rfl (by simp_all [Instr.wf]) (by decide) (by simp)
theorem readAxis (q : Req) (axis : Nat) : Statement (.readAxis q axis) :=
  of_request (r := q) rfl (by simp_all [Instr.wf]) (by decide) (by simp)
theorem readZone (q : Req) (zone : Nat) : Statement (.readZone q zone) :=
  of_request (r := q) rfl (by simp_all [Instr.wf]) (by decide) (by simp)
theorem readCue (q : Req) (cue : Nat) (start : Nat) : Statement (.readCue q cue start) :=
  of_request (r := q) rfl (by simp_all [Instr.wf]) (by decide) (by simp)
theorem readLog (q : Req) (start : Nat) : Statement (.readLog q start) :=
  of_request (r := q) rfl (by simp_all [Instr.wf]) (by decide) (by simp)
theorem readCounters (q : Req) : Statement (.readCounters q) :=
  of_request (r := q) rfl (by simp_all [Instr.wf]) (by decide) (by simp)
theorem claimFlyer (q : Req) (flyer : Nat) : Statement (.claimFlyer q flyer) :=
  of_request (r := q) rfl (by simp_all [Instr.wf]) (by decide) (by simp)
theorem releaseFlyer (q : Req) (flyer : Nat) : Statement (.releaseFlyer q flyer) :=
  of_request (r := q) rfl (by simp_all [Instr.wf]) (by decide) (by simp)
theorem setAxis (q : Req) (axis : Nat) (params : AxisParams) : Statement (.setAxis q axis params) :=
  of_request (r := q) rfl (by simp_all [Instr.wf]) (by decide) (by simp)
theorem setFlyer (q : Req) (flyer : Nat) (fields : FlyerFields) : Statement (.setFlyer q flyer fields) :=
  of_request (r := q) rfl (by simp_all [Instr.wf]) (by decide) (by simp)
theorem clearFlyer (q : Req) (flyer : Nat) : Statement (.clearFlyer q flyer) :=
  of_request (r := q) rfl (by simp_all [Instr.wf]) (by decide) (by simp)
theorem setFormation (q : Req) (formation : Nat) (fields : FormationFields) : Statement (.setFormation q formation fields) :=
  of_request (r := q) rfl (by simp_all [Instr.wf]) (by decide) (by simp)
theorem clearFormation (q : Req) (formation : Nat) : Statement (.clearFormation q formation) :=
  of_request (r := q) rfl (by simp_all [Instr.wf]) (by decide) (by simp)
theorem locate (q : Req) (flyer : Nat) (point : Vec3) : Statement (.locate q flyer point) :=
  of_request (r := q) rfl (by simp_all [Instr.wf]) (by decide) (by simp)
theorem setZone (q : Req) (zone : Nat) (fields : ZoneFields) : Statement (.setZone q zone fields) :=
  of_request (r := q) rfl (by simp_all [Instr.wf]) (by decide) (by simp)
theorem setSeparation (q : Req) (dsep : Nat) : Statement (.setSeparation q dsep) :=
  of_request (r := q) rfl (by simp_all [Instr.wf]) (by decide) (by simp)
theorem writeSlots (q : Req) (port : Nat) (slot0 : Nat) (slot1 : Nat) : Statement (.writeSlots q port slot0 slot1) :=
  of_request (r := q) rfl (by simp_all [Instr.wf]) (by decide) (by simp)
theorem swapSlots (q : Req) (port : Nat) : Statement (.swapSlots q port) :=
  of_request (r := q) rfl (by simp_all [Instr.wf]) (by decide) (by simp)
theorem cueSegment (q : Req) (seg : SegmentFields) : Statement (.cueSegment q seg) :=
  of_request (r := q) rfl (by simp_all [Instr.wf]) (by decide) (by simp)
theorem deleteCue (q : Req) (cue : Nat) : Statement (.deleteCue q cue) :=
  of_request (r := q) rfl (by simp_all [Instr.wf]) (by decide) (by simp)
theorem startCue (q : Req) (flyer : Nat) (cue : Nat) : Statement (.startCue q flyer cue) :=
  of_request (r := q) rfl (by simp_all [Instr.wf]) (by decide) (by simp)
theorem hold (q : Req) (flyer : Nat) : Statement (.hold q flyer) :=
  of_request (r := q) rfl (by simp_all [Instr.wf]) (by decide) (by simp)
theorem resume (q : Req) (flyer : Nat) : Statement (.resume q flyer) :=
  of_request (r := q) rfl (by simp_all [Instr.wf]) (by decide) (by simp)
theorem go (q : Req) (flyer : Nat) : Statement (.go q flyer) :=
  of_request (r := q) rfl (by simp_all [Instr.wf]) (by decide) (by simp)
theorem stopFlyer (q : Req) (flyer : Nat) : Statement (.stopFlyer q flyer) :=
  of_request (r := q) rfl (by simp_all [Instr.wf]) (by decide) (by simp)
theorem jog (q : Req) (flyer : Nat) (velocity : Vec3) : Statement (.jog q flyer velocity) :=
  of_request (r := q) rfl (by simp_all [Instr.wf]) (by decide) (by simp)
theorem stopAll (q : Req) : Statement (.stopAll q) :=
  of_request (r := q) rfl (by simp_all [Instr.wf]) (by decide) (by simp)
theorem releaseAllStop (q : Req) : Statement (.releaseAllStop q) :=
  of_request (r := q) rfl (by simp_all [Instr.wf]) (by decide) (by simp)
theorem raiseAlarm (q : Req) (number : Nat) (cls : Nat) (flyer : Nat) : Statement (.raiseAlarm q number cls flyer) :=
  of_request (r := q) rfl (by simp_all [Instr.wf]) (by decide) (by simp)
theorem clearFault (q : Req) (flyer : Nat) : Statement (.clearFault q flyer) :=
  of_request (r := q) rfl (by simp_all [Instr.wf]) (by decide) (by simp)
theorem clearAxis (q : Req) (axis : Nat) : Statement (.clearAxis q axis) :=
  of_request (r := q) rfl (by simp_all [Instr.wf]) (by decide) (by simp)
theorem setLogMode (q : Req) (mode : Nat) : Statement (.setLogMode q mode) :=
  of_request (r := q) rfl (by simp_all [Instr.wf]) (by decide) (by simp)
theorem clearLog (q : Req) : Statement (.clearLog q) :=
  of_request (r := q) rfl (by simp_all [Instr.wf]) (by decide) (by simp)
theorem setTiming (q : Req) (period : Nat) (cutoff : Nat) : Statement (.setTiming q period cutoff) :=
  of_request (r := q) rfl (by simp_all [Instr.wf]) (by decide) (by simp)
theorem saveConfig (q : Req) : Statement (.saveConfig q) :=
  of_request (r := q) rfl (by simp_all [Instr.wf]) (by decide) (by simp)
theorem unknownRequest (q : Req) (code : Nat) : Statement (.unknownRequest q code) := by
  intro r c e w
  obtain ⟨rfl, rfl⟩ : q = r ∧ code = c := by simpa [asRequest] using e
  simp [Instr.wf, fitsU8] at w
  exact ⟨w.1.1, w.1.2, fun h => absurd h w.2, fun h => absurd rfl (h q code)⟩
theorem stationFrameDiscarded (st : Station) : Statement (.stationFrameDiscarded st) := of_event rfl
theorem responseQueueFull (st : Station) (enable : Bool) : Statement (.responseQueueFull st enable) := of_event rfl
theorem responseSent (st : Station) : Statement (.responseSent st) := of_event rfl
theorem silenceTimerExpiry (st : Station) : Statement (.silenceTimerExpiry st) := of_event rfl
theorem motionFrame : Statement (.motionFrame) := of_event rfl
theorem feedbackFrame (port : PortId) (echo : Nat) (slot0 : Feedback) (slot1 : Feedback) : Statement (.feedbackFrame port echo slot0 slot1) := of_event rfl
theorem feedbackDiscarded (port : PortId) : Statement (.feedbackDiscarded port) := of_event rfl
theorem feedbackLost (port : PortId) : Statement (.feedbackLost port) := of_event rfl
theorem brakeTimeout (flyer : FlyerId) : Statement (.brakeTimeout flyer) := of_event rfl
theorem dwellEnd (flyer : FlyerId) : Statement (.dwellEnd flyer) := of_event rfl
theorem jogValidityExpiry (flyer : FlyerId) : Statement (.jogValidityExpiry flyer) := of_event rfl
theorem cutoff : Statement (.cutoff) := of_event rfl
theorem estopChain : Statement (.estopChain) := of_event rfl
theorem stopChainClosed : Statement (.stopChainClosed) := of_event rfl
theorem powerOnReset : Statement (.powerOnReset) := of_event rfl
theorem warmReset : Statement (.warmReset) := of_event rfl
theorem startUpEnd (answers : Bool) : Statement (.startUpEnd answers) := of_event rfl
theorem flashOperationDone (data : List Byte) : Statement (.flashOperationDone data) := of_event rfl
theorem saveBusyTimeout : Statement (.saveBusyTimeout) := of_event rfl
theorem showClockTick : Statement (.showClockTick) := of_event rfl

end Sys2Proof.Laws.CodedRequest
end

