-- ==== Sys2Proof/Tests/Slice0.lean ====
section
/-! SUPPORT. Tests of the model: ill-formed commands that the check refuses, the worked cases of the manual, and for
every statement with hypotheses a state and operands that meet them. -/

namespace Sys2Proof.Tests

open Sys2Proof Sys2Proof.Machine

-- One theorem after another: each thread of the elaborator takes a stack of its own.
set_option Elab.async false

/-! ## Ill-formed commands -/

/-- A request of Station A with the enable held. -/
def reqA : Req := { st := .a, tag := 1, enable := true, fits := true }

/-- A request of Station B with the enable held. -/
def reqB : Req := { reqA with st := .b }

/-- A tag that is no byte. -/
def badReq : Req := { reqA with tag := 256 }

/-- The parameter set of axis 6 of the worked sequences. -/
def params6 : AxisParams :=
  { anchor := ⟨0, 4000, 12000⟩, l0 := 0, k := 10000, lmin := 1000, lmax := 11000, vline := 1500, feLimit := 64,
    loadMax := 6000, slackMin := 0 }

/-- SET_FLYER fields of a VERTICAL flyer on axis 6. -/
def fields2 : FlyerFields :=
  { count := 1, members := [6, 255, 255, 255], vp := 500, ap := 1000, astop := 2000, drop := 1000, tol := 50,
    vmin := ⟨-16000, -16000, 0⟩, vmax := ⟨16000, 16000, 30000⟩ }

/-- SET_FORMATION fields: F0 leads F1. -/
def fields01 : FormationFields :=
  { leader := 0, count := 1, followers := [(1, ⟨1000, 0, 0⟩), (255, Vec3.zero), (255, Vec3.zero)] }

/-- SET_ZONE fields of the zone of section 7.9. -/
def zone4 : ZoneFields := { enabled := 1, vmin := ⟨1000, -2000, 0⟩, vmax := ⟨3000, 2000, 9000⟩, mask := 1 }

/-- A MOVE record. -/
def move (x y z : Int) (speed : Nat) (stop : Bool) (dwell : Nat) : CueRecord :=
  { kind := 1, flags := if stop then 1 else 0, w2 := speed, w4 := dwell, pos := ⟨x, y, z⟩ }

/-- A record of a kind with a number. -/
def plain (kind n : Nat) : CueRecord := { kind := kind, flags := 0, w2 := n, w4 := 0, pos := Vec3.zero }

/-- The records of cue 50 of section 6.6. -/
def records50 : List CueRecord :=
  [plain 5 1, move 0 0 9000 0 false 0, move 0 0 10000 200 true 10, plain 6 0, move 0 0 8000 0 true 0]

/-- Cue 50 in one segment. -/
def segment50 : SegmentFields :=
  { num := 50, total := 5, kind := 1, first := true, last := true, index := 0, recs := records50 }

/-- A feedback with every flag as a sound drive at rest reports it. -/
def sound (counts : Int) : Feedback :=
  { counts := counts, load := 1000, posValid := true, brakeReleased := false, driveFault := false, driveWarning := false }

theorem test_wf_accepts :
    [Instr.readStatus reqA, .setAxis reqA 6 params6, .setFlyer reqA 2 fields2, .setFormation reqA 0 fields01,
      .setZone reqA 4 zone4, .cueSegment reqA segment50, .unknownRequest reqA 0x08, .feedbackFrame 3 0 (sound 5) (sound 0),
      .flashOperationDone (List.replicate 578 0)].all Instr.wf = true := by decide +kernel

theorem test_wf_refuses_tag :
    [Instr.readStatus badReq, .readCounters badReq, .stopAll badReq, .releaseAllStop badReq, .clearLog badReq,
      .saveConfig badReq].any Instr.wf = false := by decide

theorem test_wf_refuses_number :
    [Instr.readFlyer reqA 256, .readAxis reqA 256, .readZone reqA 256, .readCue reqA 256 0, .readCue reqA 0 256,
      .readLog reqA 256, .claimFlyer reqA 256, .releaseFlyer reqA 256, .clearFlyer reqA 256, .clearFormation reqA 256,
      .writeSlots reqA 256 0 0, .writeSlots reqA 0 256 0, .writeSlots reqA 0 0 256, .swapSlots reqA 256,
      .deleteCue reqA 256, .startCue reqA 256 0, .startCue reqA 0 256, .hold reqA 256, .resume reqA 256, .go reqA 256,
      .stopFlyer reqA 256, .raiseAlarm reqA 256 0 0, .raiseAlarm reqA 0 256 0, .raiseAlarm reqA 0 0 256,
      .clearFault reqA 256, .clearAxis reqA 256, .setLogMode reqA 256, .setTiming reqA 256 0, .setTiming reqA 0 65536,
      .setSeparation reqA 65536].any Instr.wf = false := by decide

theorem test_wf_refuses_axis_fields :
    [{ params6 with anchor := ⟨32768, 0, 0⟩ }, { params6 with anchor := ⟨0, -32769, 0⟩ },
      { params6 with anchor := ⟨0, 0, 32768⟩ }, { params6 with l0 := 65536 }, { params6 with k := 65536 },
      { params6 with lmin := 65536 }, { params6 with lmax := 65536 }, { params6 with vline := 65536 },
      { params6 with feLimit := 65536 }, { params6 with loadMax := 65536 }, { params6 with slackMin := 65536 }].any
      (fun p => (Instr.setAxis reqA 6 p).wf) = false ∧ (Instr.setAxis reqA 256 params6).wf = false := by decide

theorem test_wf_refuses_flyer_fields :
    [{ fields2 with count := 256 }, { fields2 with members := [6] }, { fields2 with members := [256, 0, 0, 0] },
      { fields2 with vp := 65536 }, { fields2 with ap := 65536 }, { fields2 with astop := 65536 },
      { fields2 with drop := 65536 }, { fields2 with tol := 65536 }, { fields2 with vmin := ⟨-32769, 0, 0⟩ },
      { fields2 with vmax := ⟨0, 32768, 0⟩ }].any (fun d => (Instr.setFlyer reqA 2 d).wf) = false ∧
      (Instr.setFlyer reqA 256 fields2).wf = false := by decide

theorem test_wf_refuses_formation_fields :
    [{ fields01 with leader := 256 }, { fields01 with count := 256 }, { fields01 with followers := [] },
      { fields01 with followers := [(256, Vec3.zero), (255, Vec3.zero), (255, Vec3.zero)] },
      { fields01 with followers := [(1, ⟨32768, 0, 0⟩), (255, Vec3.zero), (255, Vec3.zero)] }].any
      (fun d => (Instr.setFormation reqA 0 d).wf) = false ∧ (Instr.setFormation reqA 256 fields01).wf = false := by decide

theorem test_wf_refuses_zone_fields :
    [{ zone4 with enabled := 256 }, { zone4 with vmin := ⟨32768, 0, 0⟩ }, { zone4 with vmax := ⟨0, 0, -32769⟩ },
      { zone4 with mask := 256 }].any (fun d => (Instr.setZone reqA 4 d).wf) = false ∧
      (Instr.setZone reqA 256 zone4).wf = false := by decide

theorem test_wf_refuses_segment_fields :
    [{ segment50 with num := 256 }, { segment50 with total := 256 }, { segment50 with kind := 256 },
      { segment50 with index := 256 }, { segment50 with recs := List.replicate 9 (plain 3 1) },
      { segment50 with recs := [plain 256 1] }, { segment50 with recs := [{ plain 3 1 with flags := 256 }] },
      { segment50 with recs := [plain 3 65536] }, { segment50 with recs := [{ plain 3 1 with w4 := 65536 }] },
      { segment50 with recs := [{ plain 3 1 with pos := ⟨2147483648, 0, 0⟩ }] }].any
      (fun g => (Instr.cueSegment reqA g).wf) = false := by decide

theorem test_wf_refuses_points_codes_and_frames :
    [Instr.locate reqA 256 Vec3.zero, .locate reqA 0 ⟨0, -2147483649, 0⟩, .jog reqA 256 Vec3.zero,
      .jog reqA 0 ⟨32768, 0, 0⟩, .unknownRequest reqA 256, .unknownRequest reqA 0x40,
      .feedbackFrame 0 256 (sound 0) (sound 0), .feedbackFrame 0 0 (sound 8388608) (sound 0),
      .feedbackFrame 0 0 (sound 0) (sound (-8388609)), .feedbackFrame 0 0 { sound 0 with load := 65536 } (sound 0),
      .flashOperationDone []].any Instr.wf = false := by decide +kernel

/-- The table gives no row any bits. -/
theorem test_no_word_spells_a_command : decodeTableWord 8 0x42 = none ∧ decodeTableWord 0 0 = none := by decide

theorem test_fetch_word_leaves_the_state : State.reset.withFetchWord 8 0x42 = State.reset := rfl

/-! ## Worked values of the manual -/

/-- R6's table. -/
theorem test_rounding_modes :
    roundHalfAway 5 2 = 3 ∧ roundHalfAway (-5) 2 = -3 ∧ roundHalfAway 7 4 = 2 ∧ roundHalfAway (-7) 4 = -2 ∧
      roundHalfAway 44262391808 1000000 = 44262 ∧ towardZero (-5) 2 = -2 ∧ towardZero (-7) 4 = -1 ∧ floorDiv 5 2 = 2 ∧
      ceilDiv 5 2 = 3 := by decide

/-- R7's table. -/
theorem test_roots :
    rootDown 12 = 3 ∧ rootNearest 12 = 3 ∧ rootDown 13 = 3 ∧ rootNearest 13 = 4 ∧
      rootNearest 89000000000000 = 9433981 ∧ rootNearest 113000000000000 = 10630146 := by decide +kernel

/-- R4's table. -/
theorem test_frames : frames 10 4 = 3 ∧ frames 10 8 = 2 ∧ frames 1500 8 = 188 ∧ frames 0 4 = 0 := by decide

/-- R19's table. -/
theorem test_counts :
    countsOf { params6 with l0 := 2000, k := 4096 } 2500000 = 2048 ∧
      countsOf { params6 with l0 := 0, k := 65535 } 500000 = 32768 ∧
      countsOf { params6 with l0 := 60000, k := 65535 } 0 = -3932100 := by decide

/-- The rig of section 1.11, Case 1: SPATIAL4, anchors at 12 m. -/
def corner (x y : Int) : AxisParams :=
  { anchor := ⟨x, y, 12000⟩, l0 := 2000, k := 4096, lmin := 500, lmax := 30000, vline := 3000, feLimit := 64,
    loadMax := 6000, slackMin := 0 }

/-- The rig of section 1.11, Case 1. -/
def rig4 : Rig :=
  { kind := .spatial4
    lines := [(0, corner (-8000) (-6000)), (1, corner 8000 (-6000)), (2, corner 8000 6000), (3, corner (-8000) 6000)]
    consts := ⟨none, 10000000⟩, volume := ⟨⟨-16000, -16000, 0⟩, ⟨16000, 16000, 30000⟩⟩, tol := 50 }

/-- R126, section 7.9, sequence 1. -/
theorem test_requested_velocity :
    requestedVelocity .spatial4 500 ⟨400, 300, 200⟩ = ⟨371391, 278543, 185695⟩ := by decide +kernel

/-- R128, section 7.9, sequence 1. -/
theorem test_first_jog_velocity :
    nextVelocity 500 4000 Vec3.zero ⟨371391, 278543, 185695⟩ = ⟨2971, 2228, 1485⟩ := by decide +kernel

/-- R200's check values. -/
theorem test_crc_check_values :
    crc16 [0x31, 0x32, 0x33, 0x34, 0x35, 0x36, 0x37, 0x38, 0x39] = 0x29B1 ∧
      crc32 [0x31, 0x32, 0x33, 0x34, 0x35, 0x36, 0x37, 0x38, 0x39] = 0xCBF43926 := by decide +kernel

/-- R72's table: REPEAT is kind 3 and END_REPEAT kind 4 (R204). -/
theorem test_balance :
    unbalanced 0 [] [plain 3 2, move 0 0 0 0 false 0, plain 3 2, move 0 0 0 0 false 0, plain 4 0, plain 4 0] = none ∧
      unbalanced 0 [] [move 0 0 0 0 false 0, plain 4 0, plain 3 2, move 0 0 0 0 false 0, plain 4 0] = some 1 ∧
      unbalanced 0 [] [plain 3 2, plain 3 2, move 0 0 0 0 false 0, plain 4 0, move 0 0 0 0 false 0] = some 0 := by decide

/-- Section 1.11, Case 1: the lines and their counts at (0, 0, 4000) mm, and the point on the edge. -/
theorem test_spatial_lengths :
    ((lineLengths rig4 ⟨0, 0, 4000000000⟩).map fun l => (l.2.2, countsOf l.2.1 l.2.2)) =
        List.replicate 4 (12806248, 44262) ∧
      measuredLength (corner 8000 6000) 44262 = 12806152 ∧
      geometryFailure rig4 ⟨0, 0, 4000000000⟩ = none ∧
      geometryFailure rig4 ⟨8000000000, 0, 4000000000⟩ = some .footprint := by decide +kernel

/-- Section 1.11, Case 2: H12, the ring point and the lengths of a PLANAR rig. -/
theorem test_planar_lengths :
    let a (x y z : Int) : AxisParams := { params6 with anchor := ⟨x, y, z⟩, l0 := 1500, k := 3000 }
    let anchors := [⟨-6000, -2000, 11000⟩, ⟨6000, 3000, 10000⟩]
    let r : Rig :=
      { kind := .planar, lines := [(4, a (-6000) (-2000) 11000), (5, a 6000 3000 10000)],
        consts := rigConstsOf anchors 2000, volume := ⟨Vec3.zero, Vec3.zero⟩, tol := 1 }
    r.consts.h12 = some 13000000 ∧ r.consts.ceiling = 8000000 ∧
      ringPoint r ⟨5000000000, 0, 3000000000⟩ = ⟨-1384615, -76923, 3000000⟩ ∧
      ((lineLengths r ⟨5000000000, 0, 3000000000⟩).map fun l => (l.2.2, countsOf l.2.1 l.2.2)) =
        [(9433981, 23802), (10630146, 27390)] := by decide +kernel

/-- Section 1.11, Case 3: a VERTICAL point on a half. -/
theorem test_vertical_counts :
    let p : AxisParams := { params6 with anchor := ⟨2500, -1200, 9000⟩, l0 := 3000, k := 1000 }
    let r : Rig := { kind := .vertical, lines := [(7, p)], consts := ⟨none, 8500000⟩, volume := ⟨Vec3.zero, Vec3.zero⟩, tol := 1 }
    (lineLengths r ⟨0, 0, 6002499500⟩).map (fun l => countsOf l.2.1 l.2.2) = [-3] ∧
      (lineLengths r ⟨0, 0, 6002499400⟩).map (fun l => countsOf l.2.1 l.2.2) = [-2] := by decide +kernel

/-! ## Small states -/

/-- The part running, with nothing configured. -/
def up : State := { State.reset with startup := .running }

/-- The definition of VERTICAL flyer F2 on axis 6. -/
def def2 : FlyerDef :=
  { members := [6], vp := 500, ap := 1000, astop := 2000, drop := 1000, tol := 50,
    volume := ⟨⟨-16000, -16000, 0⟩, ⟨16000, 16000, 30000⟩⟩ }

/-- F2 located at z = 8 m, in a state and with a run context. -/
def flyer2 (st : FlyerState) (r : Option Run) : Flyer :=
  { Flyer.initial with
    defn := some def2, rig := some ⟨none, 11000000⟩, state := st, located := true, point := some ⟨0, 0, 8000000000⟩
    run := r }

/-- Axis 6 at the counts of z = 8 m. -/
def axis6 (st : AxisState) : Axis :=
  { params := some params6, state := st, cause := if st = .faulted then some .overload else none, outgoing := 40000
    current := 40000, previous := 40000, committed := if st = .engaged then some 4000000 else none
    feedback := some (sound 40000), slack := 0 }

/-- Port D3 with axis 6 in slot 0, answered after its first send. -/
def port3 : Port :=
  { Port.initial with active := ⟨some 6, none⟩, shadow := ⟨some 6, none⟩, next := 1, last := some 0, answered := true }

/-- F2 on axis 6 at D3, owned by Station A, with cue 50 in the directory. -/
def world (st : FlyerState) (r : Option Run) (ax : AxisState) : State :=
  ((({ up with dir := [{ num := 50, kind := .vertical, recs := records50 }] }.setAxis 6 (axis6 ax)).setFlyer 2
    (flyer2 st r)).setPort 3 port3).setGrant 2 { owner := some .a, mark := false }

/-- F2 PARKED. -/
def parked : State := world .parked none .ready

/-- A run context of cue 50. -/
def run50 : Run :=
  { pending := none, kind := .path, cue := some 50, reach := [50], posCue := 50, posRecord := 2, stack := [],
    seg := some { start := ⟨0, 0, 8000000000⟩, stop := ⟨0, 0, 9000000000⟩, len := 1000000000, cap := 500000,
                  isStop := false, cue := 50, record := 1 },
    d := 0, v := 0, dwell := 0, brake := 0, jogReq := Vec3.zero, jogValid := 0, jogV := Vec3.zero }

/-- F2 in a state of its run of cue 50. -/
def flying (st : FlyerState) : State := world st (some run50) .engaged

/-- The parameter set of a corner axis of the rig of section 1.11, Case 1. -/
def cornerAxis (x y : Int) : Axis :=
  { Axis.initial with
    params := some (corner x y), state := .ready, feedback := some (sound 44262), outgoing := 44262 }

/-- A SPATIAL4 flyer located at (x, 0, 4000) mm. -/
def flyer4 (members : List AxisId) (x : Int) : Flyer :=
  { Flyer.initial with
    defn := some { def2 with members := members }, rig := some ⟨none, 11000000⟩, state := .parked, located := true
    point := some ⟨1000000 * x, 0, 4000000000⟩ }

/-- F0 leads F1 at an offset of 1000 mm in x; both SPATIAL4, PARKED, owned by Station A. -/
def pair : State :=
  let axes := (List.range 2).foldl (fun (v : Vector Axis 12) i =>
    (((v.set! (4 * i) (cornerAxis (-8000) (-6000))).set! (4 * i + 1) (cornerAxis 8000 (-6000))).set! (4 * i + 2)
      (cornerAxis 8000 6000)).set! (4 * i + 3) (cornerAxis (-8000) 6000)) up.axes
  ((((({ up with axes := axes }.setFlyer 0 (flyer4 [0, 1, 2, 3] 0)).setFlyer 1 (flyer4 [4, 5, 6, 7] 1000)).setFormation 0
    (some { leader := 0, followers := [(1, ⟨1000, 0, 0⟩)] })).setGrant 0 { owner := some .a, mark := false }).setGrant 1
    { owner := some .a, mark := false })

/-! ## Meeting the hypotheses of the statements -/

/-- The state that a command leaves. -/
def after (c : Instr) (s : State) : State :=
  match exec c s with
  | .next t => t
  | _ => s

/-- `Taken` from what is to be checked. -/
theorem taken_of {q : Req} {s : State}
    (h : (running s && q.fits && decide ((s.station q.st).queue.length < Config.queuePlaces)) = true) : Taken q s := by
  simp only [Bool.and_eq_true, decide_eq_true_eq] at h
  exact ⟨h.1.1, h.1.2, h.2⟩

/-- `MotionOpen` from what is to be checked. -/
theorem open_of {q : Req} {f : FlyerId} {b : Bool} {u : State}
    (h : (decide ((u.grant f).owner = some q.st) && (!b || q.enable) && decide (u.allStop = none) && !isFollower u f &&
      decide ((u.flyer f).state ≠ .undefined)) = true) : MotionOpen q f b u := by
  simp only [Bool.and_eq_true, Bool.or_eq_true, Bool.not_eq_true', decide_eq_true_eq] at h
  obtain ⟨⟨⟨⟨h1, h2⟩, h3⟩, h4⟩, h5⟩ := h
  exact ⟨h1, fun e => by simpa [e] using h2, h3, h4, h5⟩

/-- `FormationsSound` from what is to be checked. -/
theorem formations_of {s : State}
    (h : (∀ n m : FormationId, ∀ f : FlyerId, ((s.formation n).any fun x => x.names f) = true →
        ((s.formation m).any fun x => x.names f) = true → n = m) ∧
      ∀ n : FormationId, ((s.formation n).all fun x => decide ((x.flyers.map fun e => e.1).Nodup)) = true) :
    FormationsSound s := by
  refine ⟨fun n m x y f hx hy fx fy => h.1 n m f ?_ ?_, fun n x hx => ?_⟩
  · rw [hx]; exact fx
  · rw [hy]; exact fy
  · have k := h.2 n
    rw [hx] at k
    simpa using k

/-- `MembersApart` from what is to be checked. -/
theorem members_of {s : State}
    (h : (allFlyers.all fun f => decide (membersOf s f).Nodup && allFlyers.all fun g => decide (f = g) ||
      (membersOf s f).all fun a => !(membersOf s g).contains a) = true) : MembersApart s := by
  have hall : ∀ x : FlyerId, x ∈ allFlyers := by decide
  simp only [List.all_eq_true, Bool.and_eq_true] at h
  refine ⟨fun f g a hf hg => ?_, fun f => of_decide_eq_true (h f (hall f)).1⟩
  have k := (h f (hall f)).2 g (hall g)
  simp only [Bool.or_eq_true, decide_eq_true_eq, List.all_eq_true] at k
  rcases k with k | k
  · exact k
  · have := k a hf
    simp_all

/-- `ReachPresent` from what is to be checked. -/
theorem reach_of {s : State}
    (h : (allFlyers.all fun f => ((s.flyer f).run.all fun r => r.reach.all fun n => (cueOf s.dir n).isSome)) = true) :
    ReachPresent s := by
  intro n hn
  obtain ⟨f, hf, k⟩ := List.any_eq_true.mp hn
  have g := List.all_eq_true.mp h f hf
  cases e : (s.flyer f).run with
  | none => simp [e] at k
  | some r =>
    rw [e] at g k
    exact List.all_eq_true.mp g n (by simpa using k)

theorem formationsSound_world (st : FlyerState) (r : Option Run) (ax : AxisState) : FormationsSound (world st r ax) :=
  formations_of (by constructor <;> intro n <;> fin_cases n <;> simp [world] <;> decide)

theorem formationsSound_pair : FormationsSound pair := formations_of (by decide +kernel)

theorem membersApart_pair : MembersApart pair := members_of (by decide +kernel)

theorem membersApart_parked : MembersApart parked := members_of (by decide +kernel)

theorem membersApart_flying : MembersApart (flying (.cueRun .moving)) := members_of (by decide +kernel)

/-! ## Witnesses -/

/-- StepTakesTheFrontCommand: an empty queue. -/
theorem witness_StepTakesTheFrontCommand : State.reset.pending = [] ∧ step State.reset = .next State.reset := ⟨rfl, rfl⟩

/-- ArrivalTakesEnableLinkAndTimer: both values of the flag, and the other station. -/
theorem witness_ArrivalTakesEnableLinkAndTimer :
    reqA.enable = true ∧ { reqA with enable := false }.enable = false ∧ Station.b ≠ reqA.st := by decide

/-- EnableReleaseActsByFlyerState: sound formations, with a flyer the station owns in a state the release acts on; an
ENGAGED axis whose flyer's release ends, and one whose flyer goes on. -/
theorem witness_EnableReleaseActsByFlyerState :
    FormationsSound (flying (.cueRun .moving)) ∧ ((flying (.cueRun .moving)).grant 2).owner = some .a ∧
      FormationsSound pair ∧ (pair.grant (leaderOf pair 1)).owner = some .a ∧
      ((enableRelease .a (flying .releasing)).axis 6).state = .ready ∧
      ((enableRelease .a (flying (.cueRun .moving))).axis 6).state = .engaged :=
  ⟨formationsSound_world _ _ _, by decide +kernel, formationsSound_pair, by decide +kernel⟩

/-- Station A with its response queue full. -/
def full : State := { up with stationA := { up.stationA with queue := List.replicate 4 ⟨1, 1, .done, .empty⟩ } }

/-- RequestsThatAreNotServed: a full queue, one with room for one more, and frames that do not fit. -/
theorem witness_RequestsThatAreNotServed :
    asRequest (.hold reqA 2) = some (reqA, 0x41) ∧ running full = true ∧ 4 ≤ (full.station .a).queue.length ∧
      asRequest (.cueSegment { reqA with fits := false } segment50) = some ({ reqA with fits := false }, 0x30) ∧
      ((modStation .a (fun p => { p with queue := p.queue.tail }) full).station .a).queue.length = 3 ∧
      Instr.hold { reqA with fits := false } 2 ≠ .unknownRequest { reqA with fits := false } 0x41 := by decide +kernel

/-- LinkEventsChangeOnlyTheirOwnState: a queue with a head, and timers that do not stand at 0. -/
theorem witness_LinkEventsChangeOnlyTheirOwnState :
    running full = true ∧ (full.station .a).queue = ⟨1, 1, .done, .empty⟩ :: List.replicate 3 ⟨1, 1, .done, .empty⟩ ∧
      ∀ st, (full.station st).silence ≠ some 0 := by
  refine ⟨rfl, rfl, fun st => ?_⟩
  cases st <;> decide

/-- SilenceExpiryLosesTheLink: a port in UP and a port in DOWN. -/
theorem witness_SilenceExpiryLosesTheLink :
    running (arrived reqA parked) = true ∧ ((arrived reqA parked).station .a).link = .up ∧
      ((arrived reqA parked).station .b).link ≠ .up := by decide +kernel

/-- NumbersOutOfRangeAreRefused: the first number past each range. -/
theorem witness_NumbersOutOfRangeAreRefused :
    Taken reqA parked ∧ 4 ≤ 4 ∧ 12 ≤ 12 ∧ 8 ≤ 8 ∧ 6 ≤ 6 ∧ 2 ≤ 2 ∧ (200 < 201 ∨ 0 = 0) :=
  ⟨taken_of (by decide +kernel), by decide⟩

/-- MotionRequestsPassTheirChecksInOrder: each check in turn, the ones before it passed. -/
theorem witness_MotionRequestsPassTheirChecksInOrder :
    Taken reqA parked ∧ locateInRange (arrived reqA parked) 2 ⟨0, 0, 8000⟩ = true ∧
      Taken reqB parked ∧ ((arrived reqB parked).grant 2).owner ≠ some reqB.st ∧
      ((arrived { reqA with enable := false } parked).grant 2).owner = some .a ∧
      (arrived reqA { parked with allStop := some chainStop }).allStop ≠ none ∧
      isFollower (arrived reqA pair) 1 = true ∧ isFollower (arrived reqA parked) 2 = false ∧
      ((arrived reqA (up.setGrant 3 { owner := some .a, mark := false })).flyer 3).state = .undefined :=
  ⟨taken_of (by decide +kernel), by decide +kernel, taken_of (by decide +kernel), by decide +kernel⟩

/-- ReadStatusAndReadCountersReturnTheState, ReadFlyerAxisAndZoneReturnTheRecord: a request taken, a flyer that is
UNDEFINED and one that is not. -/
theorem witness_Reads :
    Taken reqA parked ∧ ((arrived reqA parked).flyer 0).defn = none ∧ ((arrived reqA parked).flyer 2).defn = some def2 :=
  ⟨taken_of (by decide +kernel), by decide +kernel⟩

/-- ReadLogAndReadCueReturnTheStores: the boundary indices of the log and of cue 50. -/
theorem witness_ReadLogAndReadCueReturnTheStores :
    Taken reqA parked ∧ (arrived reqA parked).log = [] ∧ 23 < 24 ∧ (arrived reqA parked).log.length ≤ 1 ∧
      cueOf (arrived reqA parked).dir 50 = some { num := 50, kind := .vertical, recs := records50 } ∧
      4 < records50.length ∧ records50.length ≤ 5 ∧ cueOf (arrived reqA parked).dir 51 = none :=
  ⟨taken_of (by decide +kernel), by decide +kernel⟩

/-- ClaimAndReleaseActOnEveryFlyerConcerned: no owner, the other owner, the requester; and a flyer that may be released
and one that may not. -/
theorem witness_ClaimAndReleaseActOnEveryFlyerConcerned :
    Taken reqA parked ∧ Taken reqB parked ∧
      (∃ g ∈ concernedFlyers (arrived reqB parked) 2,
        ((arrived reqB parked).grant g).owner ≠ none ∧ ((arrived reqB parked).grant g).owner ≠ some reqB.st) ∧
      (∀ g ∈ concernedFlyers (arrived reqA pair) 1, ((arrived reqA pair).grant g).owner = some .a) ∧
      (∀ g ∈ concernedFlyers (arrived reqA pair) 1, releasable ((arrived reqA pair).flyer g).state = none) ∧
      concernedFlyers (arrived reqA (flying .holding)) 2 = [] ++ 2 :: [] ∧
      releasable ((arrived reqA (flying .holding)).flyer 2).state ≠ none :=
  ⟨taken_of (by decide +kernel), taken_of (by decide +kernel), by decide +kernel⟩

/-- SetAxisReplacesTheParameterSet: a set out of range, a free axis and a member. -/
theorem witness_SetAxisReplacesTheParameterSet :
    Taken reqA parked ∧ paramsInRange params6 = true ∧ paramsInRange { params6 with k := 99 } = false ∧
      flyerOfAxis (arrived reqA parked) 0 = none ∧ ((arrived reqA parked).axis 0).state ≠ .engaged ∧
      flyerOfAxis (arrived reqA parked) 6 = some 2 ∧ ((arrived reqA parked).flyer 2).defn = some def2 ∧
      (arrived reqA parked).image ≠ .saving ∧ ({ arrived reqA parked with image := .saving } : State).image = .saving :=
  ⟨taken_of (by decide +kernel), by decide +kernel⟩

/-- SetFlyerReplacesTheDefinition: fields that give a definition and fields that give none. -/
theorem witness_SetFlyerReplacesTheDefinition :
    Taken reqA parked ∧ flyerDefOf fields2 = some def2 ∧ flyerDefOf { fields2 with count := 5 } = none ∧
      definitionUsable (arrived reqA parked) 2 def2 = true ∧ displacedBy (arrived reqA parked) 2 def2 = false :=
  ⟨taken_of (by decide +kernel), by decide +kernel⟩

/-- ClearFlyerRemovesTheDefinition: a PARKED flyer of no formation. -/
theorem witness_ClearFlyerRemovesTheDefinition :
    Taken reqA parked ∧ ((arrived reqA parked).flyer 2).state.restOutsideRun = true ∧
      someEngaged (arrived reqA parked) 2 = false ∧ (formationNaming (arrived reqA parked) 2).isSome = false :=
  ⟨taken_of (by decide +kernel), by decide +kernel⟩

/-- FormationRecordsAreReplacedAndCleared: a record that passes, one that names a flyer that is not SPATIAL, one that is
no record; a used formation and an empty one. -/
theorem witness_FormationRecordsAreReplacedAndCleared :
    Taken reqA pair ∧ formationOf fields01 = some { leader := 0, followers := [(1, ⟨1000, 0, 0⟩)] } ∧
      formationUsable (arrived reqA pair) 0 { leader := 0, followers := [(1, ⟨1000, 0, 0⟩)] } = true ∧
      formationUsable (arrived reqA parked) 0 { leader := 0, followers := [(1, ⟨1000, 0, 0⟩)] } = false ∧
      formationOf { fields01 with count := 0 } = none ∧
      (arrived reqA pair).formation 0 = some { leader := 0, followers := [(1, ⟨1000, 0, 0⟩)] } ∧
      (arrived reqA pair).formation 1 = none ∧ (arrived reqA pair).image ≠ .saving ∧
      (∀ g ∈ [(0 : FlyerId), 1], ((arrived reqA pair).flyer g).state.restOutsideRun = true ∧
        someEngaged (arrived reqA pair) g = false ∧ ((arrived reqA pair).grant g).owner = some .a) :=
  ⟨taken_of (by decide +kernel), by decide +kernel⟩

/-- LocateTakesThePointOfEveryFlyerConcerned: a rig and a point that passes, and a point that fails. -/
theorem witness_LocateTakesThePointOfEveryFlyerConcerned :
    (∃ r, rigOf parked 2 = some r) ∧ locateFailure parked 2 ⟨0, 0, 8000000000⟩ = none ∧ Taken reqA parked ∧
      locateInRange (arrived reqA parked) 2 ⟨0, 0, 8000⟩ = true ∧
      locateInRange (arrived reqA parked) 2 ⟨1, 0, 8000⟩ = false ∧ MotionOpen reqA 2 false (arrived reqA parked) ∧
      FormationsSound (arrived reqA parked) ∧
      (∀ g ∈ concernedFlyers (arrived reqA parked) 2, locatable ((arrived reqA parked).flyer g).state = none) ∧
      locateRefusal (arrived reqA parked) ⟨0, 0, 8000⟩ (concerned (arrived reqA parked) 2) = none ∧
      locateRefusal (arrived reqA parked) ⟨0, 0, 9000⟩ (concerned (arrived reqA parked) 2) ≠ none :=
  ⟨⟨_, rfl⟩, by decide +kernel, taken_of (by decide +kernel), by decide +kernel, by decide +kernel,
    open_of (by decide +kernel), formations_of (by decide +kernel), by decide +kernel⟩

/-- ZoneAndSeparationEditsAreTestedInOrder: a zone that is taken, one that is occupied, one that cuts a path, one out of
range, and the two ends of Dsep; a flyer with a remaining path of two segments and one with no run. -/
theorem witness_ZoneAndSeparationEditsAreTestedInOrder :
    Taken reqA pair ∧ zoneOf { zone4 with mask := 16 } = none ∧
      (∃ r, zoneOf zone4 = some r ∧ zoneOccupant (arrived reqA pair) r = none ∧ pathCut (arrived reqA pair) r = none) ∧
      (∃ r, zoneOf { zone4 with vmin := ⟨-1000, -2000, 0⟩ } = some r ∧ zoneOccupant (arrived reqA pair) r = some 0) ∧
      10000 < 10001 ∧ (arrived reqA pair).image ≠ .saving ∧
      (∀ f g : FlyerId, f < g → pairTooClose (arrived reqA pair) 10000 f g = false) ∧
      (∃ r, zoneOf { zone4 with vmin := ⟨-100, 3900, 8500⟩, vmax := ⟨100, 4100, 9500⟩, mask := 4 } = some r ∧
        pathCut (flying .holding) r = some (2, 0)) ∧
      FormationsSound (flying .holding) ∧ (2, Vec3.zero) ∈ concerned (flying .holding) 2 ∧
      (rigOf (flying .holding) (leaderOf (flying .holding) 2)).isSome = true ∧
      ((flying .holding).flyer (leaderOf (flying .holding) 2)).run = some run50 ∧
      (remainingPath (flying .holding) 2).map (fun g => (g.1.z, g.2.z)) =
        [(8000000, 9000000), (9000000, 10000000), (10000000, 8000000)] ∧
      (parked.flyer (leaderOf parked 2)).run = none :=
  ⟨taken_of (by decide +kernel), by decide +kernel, ⟨_, rfl, by decide +kernel⟩, ⟨_, rfl, by decide +kernel⟩,
    by decide +kernel, by decide +kernel, by decide +kernel, ⟨_, rfl, by decide +kernel⟩, formationsSound_world _ _ _,
    by decide +kernel⟩

/-- SlotsAreStagedAndTheSwapIsMarked: the ends of the axis numbers, one axis twice, an axis of another port. -/
theorem witness_SlotsAreStagedAndTheSwapIsMarked :
    Taken reqA parked ∧ slotsOf 11 255 = some ⟨some 11, none⟩ ∧ slotsOf 12 255 = none ∧ slotsOf 0 0 = none ∧
      stagedElsewhere (arrived reqA parked) 0 ⟨some 11, none⟩ = none ∧
      stagedElsewhere (arrived reqA parked) 0 ⟨some 6, none⟩ = some (6, 3) :=
  ⟨taken_of (by decide +kernel), by decide +kernel⟩

/-- Station A's upload of cue 50 with its first record taken. -/
def uploading : State :=
  { up with stationA := { up.stationA with
    upload := some { num := 50, total := 5, kind := .vertical, next := 1, recs := [plain 5 1] } } }

/-- SegmentsAreCollectedInTheUpload: a FIRST segment and a later one, neither the last. -/
theorem witness_SegmentsAreCollectedInTheUpload :
    Taken reqA up ∧ Taken reqA uploading ∧ rigKindNamed 1 = some .vertical ∧
      (∀ r ∈ records50, recordInRange .vertical r = true) ∧
      placesUsed (arrived reqA up) - uploadLength ((arrived reqA up).station .a).upload + 5 ≤ 4096 ∧
      ((arrived reqA uploading).station .a).upload =
        some { num := 50, total := 5, kind := .vertical, next := 1, recs := [plain 5 1] } ∧
      placesUsed (arrived reqA uploading) + 1 ≤ 4096 :=
  ⟨taken_of (by decide +kernel), taken_of (by decide +kernel), by decide +kernel⟩

/-- CompletedUploadIsInstalled: cue 50 in one segment, and as the second segment of an upload. -/
theorem witness_CompletedUploadIsInstalled :
    Taken reqA up ∧ (∀ r ∈ records50, recordInRange .vertical r = true) ∧ unbalanced 0 [] ([] ++ records50) = none ∧
      (arrived reqA up).dir.length < 128 ∧ inReach (arrived reqA up) 50 = false ∧
      (arrived reqA up).dir.Pairwise (fun c d => c.num < d.num) ∧
      ([] ++ records50).length = 5 ∧ placesUsed (arrived reqA up) + 5 ≤ 4096 ∧
      (cueOf (arrived reqA parked).dir 50).isSome = true ∧ inReach (arrived reqA parked) 50 = false :=
  ⟨taken_of (by decide +kernel), by decide +kernel⟩

/-- RefusedSegmentRewindsTheUpload: the part running, with room in the queue; fields in range and at their ends; and for
each row that refuses, a segment and a store that meet it. -/
theorem witness_RefusedSegmentRewindsTheUpload :
    let x : Upload := { num := 50, total := 5, kind := .vertical, next := 1, recs := [plain 5 1] }
    running uploading = true ∧ (uploading.station .a).queue.length < 4 ∧ Taken reqA uploading ∧
      rigKindNamed 5 = none ∧ rigKindNamed 1 = some .vertical ∧ 200 < 201 ∧ 250 < 251 ∧ 249 < 250 ∧ segment50.index = 0 ∧
      ((arrived reqA uploading).station .a).upload = some x ∧ ((arrived reqA up).station .a).upload = none ∧
      x.num = segment50.num ∧ x.total = segment50.total ∧ x.next ≠ segment50.index ∧
      x.total < x.recs.length + segment50.recs.length ∧
      recordInRange .vertical (plain 5 1) = true ∧ recordInRange .vertical (plain 7 0) = false ∧
      placesUsed (arrived reqA { up with dir := [⟨1, .vertical, List.replicate 4095 (plain 5 1)⟩] }) = 4095 ∧
      4096 - 4095 < segment50.recs.length ∧ 4096 - placesUsed (arrived reqA uploading) = 4095 ∧
      unbalanced 0 [] ([plain 5 1] ++ [plain 4 0]) = some 1 ∧ unbalanced 0 [] ([] ++ records50) = none ∧
      cueOf (List.range 128 |>.map fun n => (⟨n + 51, .vertical, records50⟩ : Cue)) 50 = none ∧
      (cueOf (arrived reqA (flying .holding)).dir 50).isSome = true ∧ inReach (arrived reqA (flying .holding)) 50 = true :=
  ⟨by decide +kernel, by decide +kernel, taken_of (by decide +kernel), by decide +kernel⟩

/-- DeleteCueRemovesAnUnusedCue: no cue, a cue in use and an unused one, at the ends of the range. -/
theorem witness_DeleteCueRemovesAnUnusedCue :
    Taken reqA parked ∧ cueOf (arrived reqA parked).dir 200 = none ∧ cueOf (arrived reqA parked).dir 1 = none ∧
      cueOf (arrived reqA parked).dir 50 ≠ none ∧ inReach (arrived reqA parked) 50 = false ∧
      inReach (arrived reqA (flying .holding)) 50 = true :=
  ⟨taken_of (by decide +kernel), by decide +kernel⟩

/-- StateChangesActOnEveryFlyerConcerned: a formation and a lone flyer with rigs, points and lines; a run with each
pending start; and the three ends that the interpreter reaches from records of cue 50 and from its end. -/
theorem witness_StateChangesActOnEveryFlyerConcerned :
    FormationsSound pair ∧ MembersApart pair ∧ concernedFlyers pair 0 = [0, 1] ∧ (∃ g, rigOf pair 1 = some g) ∧
      (pair.flyer 1).point = some ⟨1000000000, 0, 4000000000⟩ ∧ FormationsSound parked ∧ MembersApart parked ∧
      (rigOf parked 2).map (fun g => g.lines.map fun l => l.1) = some [6] ∧
      (((world .releasing (some { run50 with pending := some .cue }) .engaged).flyer 2).run.bind fun r => r.pending) =
        some .cue ∧
      (((world .releasing (some { run50 with pending := some .jog }) .engaged).flyer 2).run.bind fun r => r.pending) =
        some .jog ∧
      ((flying (.cueRun .waiting)).flyer 2).run = some run50 ∧
      (∃ m, (interpret parked.dir Config.walkBound ⟨50, 2, []⟩ none 0).stop = .move m 50 2) ∧
      (interpret parked.dir Config.walkBound ⟨50, 3, []⟩ none 0).stop = .wait ∧
      (interpret parked.dir Config.walkBound ⟨50, 5, []⟩ none 0).stop = .runEnd :=
  ⟨formationsSound_pair, membersApart_pair, by decide +kernel, ⟨_, rfl⟩, by decide +kernel, formationsSound_world _ _ _,
    membersApart_parked, by decide +kernel, by decide +kernel, by decide +kernel, by decide +kernel, ⟨_, rfl⟩, rfl, rfl⟩

/-- StartCueCreatesTheRun: an accepted cue, a missing cue, and a flyer that is not PARKED. -/
theorem witness_StartCueCreatesTheRun :
    Taken reqA parked ∧ MotionOpen reqA 2 true (arrived reqA parked) ∧ kindOf (arrived reqA parked) 2 = some .vertical ∧
      (∀ g ∈ concernedFlyers (arrived reqA parked) 2, ((arrived reqA parked).flyer g).state = .parked) ∧
      preflight (arrived reqA parked) 2 .vertical 50 = .ok [50] ∧
      (∃ r, preflight (arrived reqA parked) 2 .vertical 51 = .error r) ∧
      MotionOpen reqA 2 true (arrived reqA (flying .holding)) ∧
      startable ((arrived reqA (flying .holding)).flyer 2).state = some .busy :=
  ⟨taken_of (by decide +kernel), open_of (by decide +kernel), by decide +kernel, by decide +kernel, rfl, ⟨_, rfl⟩,
    open_of (by decide +kernel), by decide +kernel⟩

/-- PreflightAcceptsOnlyWhatPassesEveryTest: an accepted cue of three moves, from a point. -/
theorem witness_PreflightAcceptsOnlyWhatPassesEveryTest :
    preflight parked 2 .vertical 50 = .ok [50] ∧ (expandCue parked.dir .vertical 50).1.moves.length = 3 ∧
      (parked.flyer 2).point = some ⟨0, 0, 8000000000⟩ ∧ (∃ r, rigOf parked 2 = some r) :=
  ⟨rfl, by decide +kernel, by decide +kernel, ⟨_, rfl⟩⟩

/-- HoldResumeAndStopActByFlyerState: requests that pass the checks of a motion request. -/
theorem witness_HoldResumeAndStopActByFlyerState :
    Taken reqA (flying (.held .dwelling)) ∧ MotionOpen reqA 2 false (arrived reqA (flying (.held .dwelling))) ∧
      MotionOpen reqA 2 true (arrived reqA (flying (.held .dwelling))) :=
  ⟨taken_of (by decide +kernel), open_of (by decide +kernel), open_of (by decide +kernel)⟩

/-- GoRunsTheInterpreterOn: a lone flyer in WAITING, the three ends that the interpreter reaches from records of cue 50
and from its end, and the leader of a formation in WAITING. -/
theorem witness_GoRunsTheInterpreterOn :
    let s := arrived reqA (flying (.cueRun .waiting))
    Taken reqA (flying (.cueRun .waiting)) ∧ MotionOpen reqA 2 true s ∧ (s.flyer 2).state = .cueRun .waiting ∧
      Alone s 2 ∧ (s.flyer 2).run = some run50 ∧ (s.flyer 2).point = some ⟨0, 0, 8000000000⟩ ∧
      (∃ m, (interpret s.dir Config.walkBound ⟨50, 2, []⟩ none 0).stop = .move m 50 2) ∧
      (interpret s.dir Config.walkBound ⟨50, 3, []⟩ none 0).stop = .wait ∧
      (interpret s.dir Config.walkBound ⟨50, 5, []⟩ none 0).stop = .runEnd ∧
      let w := pair.setFlyer 0 { pair.flyer 0 with state := .cueRun .waiting, run := some run50 }
      Taken reqA w ∧ MotionOpen reqA 0 true (arrived reqA w) ∧ ((arrived reqA w).flyer 0).state = .cueRun .waiting ∧
        concernedFlyers (arrived reqA w) 0 = [0, 1] :=
  ⟨taken_of (by decide +kernel), open_of (by decide +kernel), by decide +kernel, rfl, by decide +kernel,
    by decide +kernel, ⟨_, rfl⟩, rfl, rfl, taken_of (by decide +kernel), open_of (by decide +kernel), by decide +kernel⟩

/-- InterpreterActsOnEachRecord: the top entries that END_REPEAT and the end of a cue find. -/
theorem witness_InterpreterActsOnEachRecord :
    let dir : List Cue := [{ num := 1, kind := .vertical, recs := [plain 4 0] }]
    (∃ rest, [StackEntry.rep 1 0 2] = .rep 1 0 2 :: rest) ∧ (recordAt dir 1 0).isSome = true ∧
      (recordAt dir 1 1).isNone = true ∧ ∃ rest, [StackEntry.ret 1 0] = .ret 1 0 :: rest :=
  ⟨⟨[], rfl⟩, rfl, rfl, ⟨[], rfl⟩⟩

/-- JogSetsTheRequestOrStartsARun: a jogging flyer, a PARKED one that passes the engagement check, and one in a run. -/
theorem witness_JogSetsTheRequestOrStartsARun :
    Taken reqA parked ∧ MotionOpen reqA 2 true (arrived reqA parked) ∧ kindOf (arrived reqA parked) 2 = some .vertical ∧
      engagementFailure (arrived reqA parked) (concerned (arrived reqA parked) 2) = none ∧
      (∃ r, engagementFailure
        (arrived reqA (parked.setAxis 6 { axis6 .ready with feedback := some (sound 40065) }))
        (concerned (arrived reqA parked) 2) = some r) ∧
      ((arrived reqA (flying .jogging)).flyer 2).state = .jogging :=
  ⟨taken_of (by decide +kernel), open_of (by decide +kernel), by decide +kernel, rfl, ⟨_, rfl⟩, by decide +kernel⟩

/-- RequestedVelocityIsHeldToVp: a request whose every component and whose magnitude stand at Vp, and one past it. -/
theorem witness_RequestedVelocityIsHeldToVp :
    (⟨0, 0, 500⟩ : Vec3).z.natAbs ≤ 500 ∧ magnitude ((readByKind .vertical ⟨0, 0, 500⟩).scale 1000) ≤ 1000 * 500 ∧
      requestedVelocity .vertical 500 ⟨0, 0, 500⟩ = ⟨0, 0, 500000⟩ ∧
      1000 * 500 < magnitude (⟨500000, 0, 1000⟩ : Vec3) := by decide +kernel

/-- AllStopActsOnEveryFlyer: all-stop inactive and active. -/
theorem witness_AllStopActsOnEveryFlyer :
    (flying .holding).allStop = none ∧ (raiseAllStop chainStop (flying .holding)).allStop ≠ none := by decide +kernel

/-- AllStopRequestsAndTheStopChain: each row of RELEASE_ALL_STOP, and each level of the chain. -/
theorem witness_AllStopRequestsAndTheStopChain :
    let stopping := raiseAllStop chainStop (flying .holding)
    Taken reqA stopping ∧ (arrived reqA stopping).allStop ≠ none ∧
      ((arrived reqA stopping).flyer 2).state = .stopping .allStop ∧
      (∀ f r, ((arrived reqA (raiseAllStop chainStop parked)).flyer f).state ≠ .stopping r) ∧
      State.reset.chainOpen = false ∧ running State.reset = false ∧ running up = true :=
  ⟨taken_of (by decide +kernel), by decide +kernel, by decide +kernel, by
    intro f r
    fin_cases f <;> cases r <;> decide +kernel, by decide +kernel⟩

/-- RaiseAlarmActsByItsClass: the ends of the alarm numbers, each class, and a flyer of either kind. -/
theorem witness_RaiseAlarmActsByItsClass :
    Taken reqA parked ∧ 99 < 100 ∧ 1 ≤ 99 ∧ ((arrived reqA parked).flyer 0).state = .undefined ∧
      ((arrived reqA parked).flyer 2).state ≠ .undefined :=
  ⟨taken_of (by decide +kernel), by decide +kernel⟩

/-- FaultsActByClassAndState: sound formations and members, for a lone flyer and for a formation. -/
theorem witness_FaultsActByClassAndState :
    FormationsSound (flying (.cueRun .moving)) ∧ MembersApart (flying (.cueRun .moving)) ∧ FormationsSound pair ∧
      MembersApart pair ∧ FaultCode.slack.cls = .flyerStop ∧ FaultCode.driveFault.cls = .flyerDead :=
  ⟨formationsSound_world _ _ _, membersApart_flying, formationsSound_pair, membersApart_pair, rfl, rfl⟩

/-- AxisFaultsReachTheirFlyer: a FAULTED axis, a free axis and a member. -/
theorem witness_AxisFaultsReachTheirFlyer :
    ((world .unready none .faulted).axis 6).state = .faulted ∧ (parked.axis 0).state ≠ .faulted ∧
      flyerOfAxis parked 0 = none ∧ (parked.axis 6).state ≠ .faulted ∧ flyerOfAxis parked 6 = some 2 := by decide +kernel

/-- ClearFaultAndClearAxisActInOrder: a FAULTED flyer whose FAULTED axis is sound again, and a free axis. -/
theorem witness_ClearFaultAndClearAxisActInOrder :
    let s := world .faulted none .faulted
    Taken reqA s ∧ ((arrived reqA s).flyer 2).state = .faulted ∧ ((arrived reqA s).grant 2).owner = some reqA.st ∧
      (arrived reqA s).allStop = none ∧ isFollower (arrived reqA s) 2 = false ∧ faultGone (arrived reqA s) 6 = true ∧
      FormationsSound (arrived reqA s) ∧ MembersApart (arrived reqA s) ∧ ¬∃ f, (0 : AxisId) ∈ membersOf (arrived reqA s) f :=
  ⟨taken_of (by decide +kernel), by decide +kernel, by decide +kernel, by decide +kernel, by decide +kernel,
    by decide +kernel, formations_of (by decide +kernel), members_of (by decide +kernel), by decide +kernel⟩

/-- TheLogKeepsEntriesByItsMode: the last mode number, and a log below and at its 24 places. -/
theorem witness_TheLogKeepsEntriesByItsMode :
    Taken reqA parked ∧ 2 ≤ 2 ∧ 2 < 3 ∧ parked.log.length < 24 ∧
      24 ≤ (List.replicate 24 (⟨0, .linkLost, .note, none, none, some .a, none, .none⟩ : LogEntry)).length ∧
      (arrived reqA parked).image ≠ .saving :=
  ⟨taken_of (by decide +kernel), by decide +kernel⟩

/-- TimingIsSetAndASaveBegins: the ends of the cut-off range, a flyer in a run and none. -/
theorem witness_TimingIsSetAndASaveBegins :
    Taken reqA parked ∧ (500 ≤ 500 ∧ 500 % 100 = 0) ∧ (3000 ≤ 3000 ∧ 3000 % 100 = 0) ∧
      (∀ f, ((arrived reqA parked).flyer f).state.inRun = false) ∧
      ((arrived reqA (flying .holding)).flyer 2).state.inRun = true ∧
      (∀ g, g < (2 : FlyerId) → ((arrived reqA (flying .holding)).flyer g).state.inRun = false) :=
  ⟨taken_of (by decide +kernel), by decide +kernel⟩

/-- SavesRunThroughFourOperations: each operation of a save. -/
theorem witness_SavesRunThroughFourOperations :
    ∀ n ≤ 4, running { up with saveStep := n } = true ∧ ({ up with saveStep := n } : State).saveStep = n :=
  fun _ _ => ⟨rfl, rfl⟩

/-- MotionFrameIsTakenByEveryPort: the part running, on a frame that is not the expiry's and with the cut-off count at 2;
a flyer in WAITING of sound formations; a flyer on a cue path that is the only one to advance, in each of its states, on a
step that passes and on one that a geometric condition ends; and a jog in each of its states. -/
theorem witness_MotionFrameIsTakenByEveryPort :
    let step (p : Vec3) := governed (flying .holding) (concerned (flying .holding) 2) 500
      { seg := { start := p, stop := p, len := 0, cap := 0, isStop := true, cue := 50, record := 2 }, d := 0, v := 0
        step := 0, marks := [], arrived := false } p 3 false 0
    let jog (st : FlyerState) := world st (some { run50 with kind := .jog, seg := none }) .engaged
    running parked = true ∧ parked.allStop = none ∧
      (({ raiseAllStop chainStop parked with cutCount := 2 } : State).allStop ≠ none) ∧
      FormationsSound (flying (.cueRun .waiting)) ∧
      ((flying (.cueRun .waiting)).flyer (leaderOf (flying (.cueRun .waiting)) 2)).state = .cueRun .waiting ∧
      (∀ st ∈ [FlyerState.cueRun .moving, .holding, .stopping .request, .stopping .fault],
        FormationsSound (flying st) ∧ MembersApart (flying st) ∧ ((flying st).flyer 2).state = st ∧
        isFollower (flying st) 2 = false ∧ (∀ g, g ≠ 2 → ((flying st).flyer (leaderOf (flying st) g)).state = .undefined) ∧
        ((flying st).flyer 2).run = some run50 ∧ run50.seg.isSome = true ∧
        ((flying st).flyer 2).point = some ⟨0, 0, 8000000000⟩) ∧
      (step ⟨0, 0, 8000000000⟩).toOption.isSome = true ∧ (step ⟨0, 0, 11500000000⟩).toOption.isNone = true ∧
      ∀ st ∈ [FlyerState.jogging, .stopping .request, .stopping .allStop],
        FormationsSound (jog st) ∧ MembersApart (jog st) ∧ ((jog st).flyer 2).state = st ∧
        ((jog st).flyer 2).run.map (fun r => r.kind) = some .jog ∧ (rigOf (jog st) 2).isSome = true := by
  refine ⟨by decide +kernel, by decide +kernel, by decide +kernel, formationsSound_world _ _ _, by decide +kernel,
    fun st h => ?_, by decide +kernel, by decide +kernel, fun st h => ?_⟩
  · simp only [List.mem_cons, List.not_mem_nil, or_false] at h
    rcases h with rfl | rfl | rfl | rfl <;>
      exact ⟨formationsSound_world _ _ _, members_of (by decide +kernel), by decide +kernel⟩
  · simp only [List.mem_cons, List.not_mem_nil, or_false] at h
    rcases h with rfl | rfl | rfl <;>
      exact ⟨formationsSound_world _ _ _, members_of (by decide +kernel), by decide +kernel⟩

/-- MotionFrameIsTakenByEveryPort: the counts of RELEASING above and at their last frame, with the brake released and not;
DWELLING above and at its last frame; and a stop with no current segment. -/
theorem witness_MotionFrameCounts :
    let releasing (n : Nat) := world .releasing (some { run50 with brake := n, pending := some .cue }) .engaged
    let dwelling (n : Nat) := world (.cueRun .dwelling) (some { run50 with dwell := n }) .engaged
    let still := world (.stopping .request) (some { run50 with seg := none }) .engaged
    concernedFlyers (releasing 1) 2 = [] ++ 2 :: [] ∧ membersOf (releasing 1) 2 = [] ++ 6 :: [] ∧
      ((releasing 1).axis 6).feedback.map (fun x => x.brakeReleased) = some false ∧
      ((advanceFlyer (releasing 2) 2 (releasing 2)).flyer 2).state = .releasing ∧
      ((advanceFlyer (releasing 1) 2 (releasing 1)).flyer 2).state = .faulted ∧
      ((advanceFlyer (dwelling 2) 2 (dwelling 2)).flyer 2).state = .cueRun .dwelling ∧
      ((advanceFlyer (dwelling 1) 2 (dwelling 1)).flyer 2).state = .cueRun .moving ∧
      FormationsSound still ∧ MembersApart still ∧ geometryFault still (memberPoints (concerned still 2) ⟨0, 0, 8000000000⟩) =
        none ∧ ((advanceFlyer still 2 still).flyer 2).state = .parked :=
  ⟨by decide +kernel, by decide +kernel, by decide +kernel, by decide +kernel, by decide +kernel, by decide +kernel,
    by decide +kernel, formationsSound_world _ _ _, members_of (by decide +kernel), by decide +kernel⟩

/-- Port D3 with a swap pending that its shadow table decides. -/
def swapping (st : FlyerState) (ax : AxisState) (p : PortId) (shadow : Slots) : State :=
  let s := world st none ax
  s.setPort p { s.port p with shadow := shadow, swap := true }

/-- SetPointsAreSentAndRecorded: a table that holds an axis once; no swap pending; a swap dropped for an ENGAGED axis, one
dropped for an axis of another port, and one applied. -/
theorem witness_SetPointsAreSentAndRecorded :
    (parked.port 3).active.doubled = false ∧ (parked.port 3).swap = false ∧
      ((takeSwap 3 (swapping .holding .engaged 3 ⟨none, none⟩)).log.map fun e => (e.axis, e.detail)) =
        [(some 6, .number 1)] ∧
      ((takeSwap 2 (swapping .parked .ready 2 ⟨none, some 6⟩)).log.map fun e => (e.axis, e.detail)) =
        [(some 6, .number 2)] ∧
      ((takeSwap 3 (swapping .parked .ready 3 ⟨none, some 6⟩)).axis 6).state = .unreferenced ∧
      ((takeSwap 3 (swapping .parked .ready 3 ⟨none, none⟩)).flyer 2).state = .unready := by decide +kernel

/-- FeedbackIsTakenOrDiscarded: a port that waits for its answer, and one that is answered; sound formations; a flyer in
RELEASING whose brake the frame reports released, the only one there. -/
theorem witness_FeedbackIsTakenOrDiscarded :
    let s := parked.setPort 3 { port3 with answered := false }
    let r := (world .releasing (some { run50 with pending := some .jog }) .engaged).setPort 3 { port3 with answered := false }
    let t := after (.feedbackFrame 3 0 { sound 40000 with brakeReleased := true } (sound 0)) r
    running s = true ∧ (s.port 3).last.map BitVec.toNat = some 0 ∧ (s.port 3).answered = false ∧
      (s.port 3).active.slot0 = some 6 ∧ (s.port 3).active.slot1 ≠ some 6 ∧ (s.port 3).active.has 0 = false ∧
      (parked.port 3).answered = true ∧ FormationsSound s ∧ FormationsSound r ∧ (t.flyer 2).state = .jogging :=
  ⟨by decide +kernel, by decide +kernel, by decide +kernel, by decide +kernel, by decide +kernel, by decide +kernel,
    by decide +kernel, formations_of (by decide +kernel), formations_of (by decide +kernel), by decide +kernel⟩

/-- SupervisionTestsInOrder: an ENGAGED axis with loads and counts at and past their limits, a FAULTED one, and one without
a parameter set. -/
theorem witness_SupervisionTestsInOrder :
    ((flying .holding).axis 6).params = some params6 ∧ ((flying .holding).axis 6).state = .engaged ∧
      ((40000 : Int) - 40065).natAbs = params6.feLimit + 1 ∧ ((40000 : Int) - 40064).natAbs ≤ params6.feLimit ∧
      ((world .parked none .unreferenced).axis 6).state = .unreferenced ∧
      ((world .faulted none .faulted).axis 6).state = .faulted ∧
      (supervise 6 { sound 40000 with driveFault := true, driveWarning := true } (some (sound 40000))
        (world .faulted none .faulted)).log.map (fun e => e.code) = [.driveFault, .driveWarning] ∧
      ((superviseSound 0 { sound 0 with load := 60000 } (up.setAxis 0 { Axis.initial with state := .unreferenced })).axis
        0).state = .ready := by decide +kernel

/-- CountsThatRunOutAct: a formation in RELEASING with its brake count at 1, whose leader's brakes are released and whose
follower's are not, and one in DWELLING with its count at 1. -/
theorem witness_CountsOfAFormation :
    let released (a : AxisId) (s : State) := s.setAxis a { s.axis a with
      feedback := (s.axis a).feedback.map fun fb => { fb with brakeReleased := true } }
    let r := (released 0 (released 1 (released 2 (released 3 pair)))).setFlyer 0
      { flyer4 [0, 1, 2, 3] 0 with state := .releasing, run := some { run50 with brake := 1 } }
    let d := pair.setFlyer 0
      { flyer4 [0, 1, 2, 3] 0 with state := .cueRun .dwelling, run := some { run50 with dwell := 1 } }
    running r = true ∧ (r.flyer 0).state = .releasing ∧ concernedFlyers r 0 = [0] ++ 1 :: [] ∧
      (∀ b ∈ membersOf r 0, ∃ fb, (r.axis b).feedback = some fb ∧ fb.brakeReleased = true) ∧
      membersOf r 1 = [] ++ 4 :: [5, 6, 7] ∧ (r.axis 4).feedback.map (fun fb => fb.brakeReleased) = some false ∧
      (d.flyer 0).state = .cueRun .dwelling ∧ (d.flyer 0).run.map (fun x => x.dwell) = some 1 := by
  refine ⟨by decide +kernel, by decide +kernel, by decide +kernel, fun b h => ?_, by decide +kernel⟩
  have e : b ∈ ([0, 1, 2, 3] : List AxisId) := h
  simp only [List.mem_cons, List.not_mem_nil, or_false] at e
  rcases e with rfl | rfl | rfl | rfl <;> exact ⟨_, rfl, rfl⟩

/-- CountsThatRunOutAct: a port with two misses, a flyer in RELEASING, DWELLING and JOGGING with its count at 1. -/
theorem witness_CountsThatRunOutAct :
    let p := parked.setPort 3 { port3 with answered := false, miss := 2 }
    let r : State := world .releasing (some { run50 with pending := some .cue, brake := 1 }) .engaged
    let d : State := world (.cueRun .dwelling) (some { run50 with dwell := 1 }) .engaged
    let j : State := world .jogging (some { run50 with kind := .jog, jogValid := 1 }) .engaged
    running p = true ∧ (p.port 3).last.isSome = true ∧ (p.port 3).answered = false ∧ (p.port 3).miss = 2 ∧
      (r.flyer 2).state = .releasing ∧ ((r.flyer 2).run.map fun x => x.brake) = some 1 ∧ Alone r 2 ∧
      membersOf r 2 = [] ++ 6 :: [] ∧ ((r.axis 6).feedback.map fun x => x.brakeReleased) = some false ∧
      (d.flyer 2).state = .cueRun .dwelling ∧ ((d.flyer 2).run.map fun x => x.dwell) = some 1 ∧ Alone d 2 ∧
      (j.flyer 2).state = .jogging ∧ ((j.flyer 2).run.map fun x => x.jogValid) = some 1 :=
  ⟨by decide +kernel, by decide +kernel, by decide +kernel, by decide +kernel, by decide +kernel, by decide +kernel, rfl,
    by decide +kernel, by decide +kernel, by decide +kernel, by decide +kernel, rfl, by decide +kernel, by decide +kernel⟩

/-- CutOffFaultsEveryFlyerStillStopping: the count at 1 with a flyer in STOPPING and flyers that are not, as all-stop
leaves them, every port without a swap or a third miss; and no all-stop. -/
theorem witness_CutOffFaultsEveryFlyerStillStopping :
    let s : State := { raiseAllStop chainStop (flying .holding) with cutCount := 1 }
    running s = true ∧ s.allStop ≠ none ∧ s.cutCount = 1 ∧ AllStopCalm s ∧ FormationsSound s ∧
      (s.flyer 2).state.isStopping = true ∧ (s.flyer 2).cause = some chainStop ∧
      (∀ f, (s.flyer f).state ≠ .stopping .request) ∧ (s.flyer 0).state.isStopping = false ∧
      (s.flyer (leaderOf s 0)).state.isStopping = false ∧
      (∀ p, (s.port p).swap = false ∧
        ¬((s.port p).last.isSome = true ∧ (s.port p).answered = false ∧ (s.port p).miss = 2)) ∧
      parked.allStop = none :=
  ⟨by decide +kernel, by decide +kernel, by decide +kernel, fun _ => by decide +kernel, formations_of (by decide +kernel),
    by decide +kernel⟩

/-- The image of `parked` with a Dsep of 10001 mm, which is out of range. -/
def image : List Byte := imageOf { parked with dsep := 10001 }

/-- The image is valid: its CRC is that of its body, whatever value that is. -/
theorem test_image_is_valid : imageValid image = true := by
  have len : (imageBody { parked with dsep := 10001 }).length = 574 := by decide +kernel
  have crc : ∀ x : Nat, (num 4 x).length = 4 := fun x => by simp [num, bytesOf]
  have crcField : slice image 574 4 = num 4 (crc32 (image.take 574)).toNat := by
    rw [image, imageOf, sealed32, ← len, slice, List.drop_left, List.take_left]
    exact List.take_of_length_le (by rw [crc])
  have four : (decide (578 ≤ image.length) && decide (slice image 0 4 = marker) &&
      decide (natOf (slice image 4 4) = 578)) = true := by decide +kernel
  rw [imageValid, show Config.imageBytes = 578 from rfl, show Config.imageBody = 574 from rfl, four, crcField]
  simp

/-- ResetsSetEveryPieceOfState, StartUpEndsInTheStatedState: each stage of start-up, with an unreadable image and with a
valid one that holds an item out of range, Dsep, and items that pass, axis 6, port D3 and F2. -/
theorem witness_Startup :
    State.reset.startup = .powerOn ∧ (warmed parked).startup = .warm ∧ up.startup = .running ∧
      (∀ bs, State.reset.flash = .whole bs → imageValid bs = false) ∧
      ({ State.reset with flash := .whole image } : State).flash = .whole image ∧ imageValid image = true ∧
      u16At image 12 = 10001 ∧
      entryAt image (axisOffset 6) (passing paramsInRange (paramsAt image (axisOffset 6 + 1))) = some (some params6) ∧
      slotsOf (u8At image (portOffset 3)) (u8At image (portOffset 3 + 1)) = some ⟨some 6, none⟩ ∧
      entryAt image (flyerOffset 2) (flyerDefOf (flyerFieldsAt image (flyerOffset 2 + 1))) = some (some def2) :=
  ⟨rfl, rfl, rfl, fun _ h => (by cases h), rfl, test_image_is_valid, by decide +kernel⟩

/-- RootsRoundingsAndTheSlabTestAreExact: a divisor, a period, a set in range with a length between its limits, and the
guard distance. -/
theorem witness_RootsRoundingsAndTheSlabTestAreExact :
    (0 : Int) < 2 ∧ 0 < 4 ∧ paramsInRange params6 = true ∧ 1000 * (params6.lmin : Int) ≤ 4000000 ∧
      4000000 ≤ 1000 * (params6.lmax : Int) ∧ 0 ≤ Config.guardMicrons := by decide

/-- PathStepsKeepTheirBounds: a segment, a starting state, and a step that governing lets through; a point in its volume
and outside every zone; and jog candidates inside the volume, past it, and past a line limit. -/
theorem witness_PathStepsKeepTheirBounds :
    let s := flying (.cueRun .moving)
    let at_ (z : Int) : Vec3 := ⟨0, 0, 1000000 * z⟩
    ∃ g r, run50.seg = some g ∧ 0 < g.len ∧
      (governed s (concerned s 2) 500 { seg := g, d := 0, v := 4000, step := 0, marks := [], arrived := false }
        (at_ 8000) 3 false 16000).toOption.isSome = true ∧
      rigOf s 2 = some r ∧ 1 ≤ r.lines.length ∧ r.volume.holds (ringPoint r (at_ 8000)) = true ∧
      r.volume.holds (ringPoint r (at_ 30001)) = false ∧ entersZone s (concerned s 2) (at_ 8000) (at_ 8000) = false ∧
      (∀ i, i ∉ componentsOf .vertical → component (at_ 9000) i = component (at_ 8000) i) ∧
      limitsFail s (memberPoints (concerned s 2) (at_ 8000)) = false ∧
      limitsFail s (memberPoints (concerned s 2) (at_ 11500)) = true :=
  ⟨_, _, rfl, by decide, by decide +kernel, rfl, by decide +kernel⟩

/-- AWrittenImageReadsBack: items that their requests take, and items that are absent. -/
theorem witness_AWrittenImageReadsBack :
    parked.cfgT < 256 ∧ parked.cutoff < 65536 ∧ parked.dsep < 65536 ∧
      (∀ p, (parked.axis 6).params = some p → paramsInRange p = true) ∧ (parked.port 3).active.doubled = false ∧
      (∃ fields, flyerDefOf fields = some def2) ∧
      (∃ fields, formationOf fields = some { leader := 0, followers := [(1, ⟨1000, 0, 0⟩)] }) ∧
      ∃ fields, zoneOf fields = some Zone.initial := by
  refine ⟨by decide +kernel, by decide +kernel, by decide +kernel, fun p h => ?_, by decide +kernel, ⟨fields2, rfl⟩,
    ⟨fields01, rfl⟩, ⟨{ enabled := 0, vmin := Vec3.zero, vmax := Vec3.zero, mask := 0 }, rfl⟩⟩
  cases h
  decide

/-- The invariants: a state in a run that meets them, and a step from it. -/
theorem witness_Invariants :
    let s : State := { flying .holding with pending := [.motionFrame] }
    FormationsSound s ∧ MembersApart s ∧ StoreSound s ∧ Bounded s ∧ AllStopCalm s ∧ Settled s ∧ SlotsApart s ∧
      ReachPresent s ∧ ∃ t, step s = .next t := by
  refine ⟨formations_of (by decide +kernel), members_of (by decide +kernel), ⟨by decide +kernel, by decide +kernel, by decide +kernel⟩, ?_, ?_,
    ?_, ?_, reach_of (by decide +kernel), ⟨_, rfl⟩⟩
  · exact ⟨by decide +kernel, by intro st; cases st <;> decide +kernel, by decide +kernel⟩
  · intro h
    exact absurd rfl h
  · exact ⟨by decide +kernel, by decide +kernel⟩
  · exact ⟨by decide +kernel, by decide +kernel⟩

/-! ## One command at a time -/

/-- The last answer queued at Station A. -/
def answered (s : State) : Option ResultCode := s.stationA.queue.getLast?.map fun r => r.result

/-- R96, R102, R109: the first frame of a segment from rest, at Ap = 1000 mm/s² and T = 4 ms. -/
theorem test_first_frame :
    let t := after .motionFrame (flying (.cueRun .moving))
    (t.flyer 2).point = some ⟨0, 0, 8000016000⟩ ∧ ((t.flyer 2).run.map fun r => (r.d, r.v)) = some (16000, 4000) ∧
      (t.port 3).last = some 1 := by decide +kernel

/-- R53, R54, R108: a stop in WAITING before any MOVE takes the separation test on its frame: F1 stands 1000 mm from F0,
with a separation of 1001 mm. -/
theorem test_stop_before_any_move_is_separated :
    let run : Run := { run50 with seg := none }
    let s := (pair.setFormation 0 none).setFlyer 1
      { flyer4 [4, 5, 6, 7] 1000 with state := .stopping .request, run := some run }
    let t (n : Nat) := after .motionFrame { s with dsep := n }
    ((t 1001).flyer 1).state = .faulted ∧ (((t 1001).flyer 1).cause.map fun c => (c.code, c.detail)) =
      some (.separation, .number 0) ∧ ((t 1000).flyer 1).state = .parked := by decide +kernel

/-- R120: HOLDING from v = 0 comes to rest on the first frame. -/
theorem test_hold_at_rest : ((after .motionFrame (flying .holding)).flyer 2).state = .held .moving := by decide +kernel

/-- Section 8.5, sequence 2: the error is measured against the previous set-point. -/
theorem test_following_error :
    let s := (flying (.cueRun .moving)).setAxis 6 { axis6 .engaged with current := 40180, previous := 40120 }
    let t := after (.feedbackFrame 3 0 (sound 40050) (sound 0)) (s.setPort 3 { port3 with answered := false })
    (t.axis 6).cause = some .followingError ∧ (t.flyer 2).located = false ∧
      t.log.map (fun e => (e.code, e.detail)) = [(.followingError, .number 70)] := by decide +kernel

/-- Section 8.5, sequence 1: the third miss faults the axis and its flyer. -/
theorem test_feedback_lost :
    let t := after (.feedbackLost 3) ((flying (.cueRun .moving)).setPort 3 { port3 with answered := false, miss := 2 })
    (t.axis 6).cause = some .feedbackLost ∧ (t.flyer 2).state = .faulted ∧ (t.flyer 2).located = false ∧
      (t.port 3).miss = 3 ∧ t.alarm = true := by decide +kernel

/-- R92: an accepted START_CUE enters RELEASING with 250 frames of brake release at T = 4 ms. -/
theorem test_start_cue :
    let t := after (.startCue reqA 2 50) parked
    answered t = some .done ∧ (t.flyer 2).state = .releasing ∧ (t.axis 6).committed = some 4000000 ∧
      ((t.flyer 2).run.map fun r => r.brake) = some 250 := by decide +kernel

/-- R99: the arrival at which the brake is reported released starts the run at the first MOVE, past the MARK before it. -/
theorem test_release_completes :
    let s := (after (.startCue reqA 2 50) parked).setPort 3 { port3 with answered := false }
    let t := after (.feedbackFrame 3 0 { sound 40000 with brakeReleased := true } (sound 0)) s
    (t.flyer 2).state = .cueRun .moving ∧ (t.flyer 2).mark = 1 ∧
      ((t.flyer 2).run.map fun r => (r.posRecord, r.v)) = some (2, 0) := by decide +kernel

/-- R187, R202: READ_FLYER sends the members, the rig kind and Vp, and of a VERTICAL point one coordinate. -/
theorem test_read_flyer_bytes :
    (flyerBytes (flyerView parked 2)).take 7 = [6, 255, 255, 255, 1, 0xF4, 1] ∧
      (flyerBytes (flyerView parked 2)).length = 76 := by decide +kernel

/-- R178: a clear enable flag takes MOVING to HOLDING before the request is decided. -/
theorem test_enable_release :
    let t := after (.hold { reqA with enable := false } 2) (flying (.cueRun .moving))
    (t.flyer 2).state = .holding ∧ answered t = some .done := by decide +kernel

/-- R181, R183: the other station is refused. -/
theorem test_grants :
    ((after (.claimFlyer reqB 2) parked).stationB.queue.map fun r => r.result) = [.owned] ∧
      ((after (.stopFlyer reqB 2) (flying .holding)).stationB.queue.map fun r => r.result) = [.notOwner] := by
  decide +kernel

/-- R163, R165: STOP_ALL on a flyer in motion, with 375 frames of cut-off at T = 4 ms. -/
theorem test_stop_all :
    let t := after (.stopAll reqB) (flying (.cueRun .moving))
    (t.flyer 2).state = .stopping .allStop ∧ t.cutCount = 375 ∧ t.alarm = true ∧ t.log.length = 1 := by decide +kernel

/-- R165: the expiry. -/
theorem test_cut_off :
    let t := after .cutoff { raiseAllStop chainStop (flying .holding) with cutCount := 1 }
    (t.flyer 2).state = .faulted ∧ (t.flyer 2).located = false ∧ (t.axis 6).state = .ready := by decide +kernel

/-- R29, R170: a fault whose condition is gone is cleared. -/
theorem test_clear_fault :
    let t := after (.clearFault reqA 2) (world .faulted none .faulted)
    (t.flyer 2).state = .parked ∧ (t.axis 6).state = .ready ∧ (t.axis 6).cause = none := by decide +kernel

/-- R74: cue 50 is installed in one segment. -/
theorem test_upload :
    let t := after (.cueSegment reqA segment50) up
    answered t = some .done ∧ cueOf t.dir 50 = some { num := 50, kind := .vertical, recs := records50 } := by
  decide +kernel

/-- R197, R198: a save begins with the whole image, and an erased area is blank. -/
theorem test_save :
    let t := after (.saveConfig reqA) parked
    t.image = .saving ∧ t.saveData.length = 578 ∧ t.flash = .blank := by decide +kernel

/-- R192, R194: the first start-up with a blank flash. -/
theorem test_start_up :
    let t := after (.startUpEnd true) State.reset
    t.startup = .running ∧ t.log.map (fun e => e.code) = [.imageDefaults] ∧ t.t = 4 := by decide +kernel

/-- R176, R201: a STOP_ALL frame of 7 bytes with the enable clear is the command, and with a wrong byte is discarded. -/
theorem test_station_frame :
    stationCommand .a 0 (sealed16 [7, 0, 9, 0x50, 0]) = .stopAll { st := .a, tag := 9, enable := false, fits := true } ∧
      stationCommand .a 0 (sealed16 [7, 0, 9, 0x50, 0] ++ [0]) = .stationFrameDiscarded .a ∧
      stationCommand .b 4 (sealed16 [7, 0, 9, 0x50, 1]) = .responseQueueFull .b true := by decide +kernel

/-- R203: a feedback frame of 15 bytes. -/
theorem test_drive_frame :
    driveCommand 3 (sealed16 [5, 0xFF, 0xFF, 0xFF, 0xE8, 3, 3, 1, 0, 0, 0, 0, 12]) =
      .feedbackFrame 3 5
        { counts := -1, load := 1000, posValid := true, brakeReleased := true, driveFault := false, driveWarning := false }
        { counts := 1, load := 0, posValid := false, brakeReleased := false, driveFault := true, driveWarning := true } := by
  decide +kernel

end Sys2Proof.Tests
end

