-- ==== Sys2Proof/Proofs/Arithmetic.lean ====
section
/-! The arithmetic of chapter 1: roots, rounding half away from zero, motion frames and drum counts (R4, R6, R7, R18,
R19). -/

namespace Sys2Proof.Machine

/-! ## Roots (R7) -/

/-- The bits kept so far, `r`, and the bits still to be weighed, below `2 ^ k`, bracket the root. -/
theorem rootBits_bracket (s k r : Nat) (below : r * r ≤ s) (above : s < (r + 2 ^ k) * (r + 2 ^ k)) :
    rootBits s k r * rootBits s k r ≤ s ∧ s < (rootBits s k r + 1) * (rootBits s k r + 1) := by
  induction k generalizing r with
  | zero => exact ⟨below, above⟩
  | succ k ih =>
    unfold rootBits
    split
    · next taken => exact ih _ taken (by rwa [pow_succ, mul_two, ← add_assoc] at above)
    · next skipped => exact ih _ below (not_le.mp skipped)

/-- Half as many bits as the operand's are enough for its root. -/
theorem lt_sq_two_pow_half_log2 (s : Nat) : s < 2 ^ (Nat.log2 s / 2 + 1) * 2 ^ (Nat.log2 s / 2 + 1) :=
  calc s < 2 ^ (Nat.log2 s + 1) := Nat.lt_log2_self
    _ ≤ 2 ^ (Nat.log2 s / 2 + 1 + (Nat.log2 s / 2 + 1)) := Nat.pow_le_pow_right (by decide) (by omega)
    _ = _ := pow_add ..

theorem rootDown_bracket (s : Nat) :
    rootDown s * rootDown s ≤ s ∧ s < (rootDown s + 1) * (rootDown s + 1) :=
  rootBits_bracket s _ 0 (Nat.zero_le s) (by simpa using lt_sq_two_pow_half_log2 s)

theorem rootNearest_of_lt {s : Nat} (h : rootDown s * rootDown s + rootDown s < s) :
    rootNearest s = rootDown s + 1 := if_pos h

theorem rootNearest_of_le {s : Nat} (h : s ≤ rootDown s * rootDown s + rootDown s) :
    rootNearest s = rootDown s := if_neg (not_lt.mpr h)

/-- A result `r` that is not 0 has `(r - 1)² + (r - 1) < s ≤ r² + r`: the integers whose root lies nearest to `r`. -/
theorem rootNearest_bracket (s : Nat) :
    (rootNearest s = 0 ∨ rootNearest s * rootNearest s < s + rootNearest s) ∧
      s ≤ rootNearest s * rootNearest s + rootNearest s := by
  obtain ⟨below, above⟩ := rootDown_bracket s
  rcases lt_or_ge (rootDown s * rootDown s + rootDown s) s with up | down
  · rw [rootNearest_of_lt up]
    exact ⟨.inr (by linarith), by linarith⟩
  · rw [rootNearest_of_le down]
    refine ⟨?_, down⟩
    rcases Nat.eq_zero_or_pos (rootDown s) with zero | pos
    · exact .inl zero
    · exact .inr (by omega)

/-! ## Rounding half away from zero (R6) -/

theorem roundHalfAway_of_nonneg {n : Int} (d : Int) (hn : 0 ≤ n) :
    roundHalfAway n d = (2 * n + d) / (2 * d) := if_pos hn

/-- Rounding is symmetric about 0. -/
theorem roundHalfAway_neg {d : Int} (n : Int) (hd : 0 < d) : roundHalfAway (-n) d = -roundHalfAway n d := by
  rcases lt_trichotomy n 0 with neg | rfl | pos
  · rw [roundHalfAway_of_nonneg d (by omega), roundHalfAway, if_neg (by omega), neg_neg]
  · have zero : roundHalfAway 0 d = 0 := by
      rw [roundHalfAway_of_nonneg d le_rfl]
      exact Int.ediv_eq_zero_of_lt (by omega) (by omega)
    rw [neg_zero, zero, neg_zero]
  · rw [roundHalfAway_of_nonneg d pos.le, roundHalfAway, if_neg (by omega), neg_neg]

/-- The product of the result and the divisor lies within half a divisor of the operand, and above it at a half. -/
theorem roundHalfAway_bracket {n d : Int} (hn : 0 ≤ n) (hd : 0 < d) :
    2 * (roundHalfAway n d * d) ≤ 2 * n + d ∧ 2 * n < 2 * (roundHalfAway n d * d) + d := by
  rw [roundHalfAway_of_nonneg d hn]
  have lower := Int.ediv_mul_le (2 * n + d) (b := 2 * d) (by omega)
  have upper := Int.lt_ediv_add_one_mul_self (2 * n + d) (b := 2 * d) (by omega)
  constructor <;> linarith

/-- The nearest multiple of the divisor, and of two equally near ones that which is farther from 0. -/
theorem roundHalfAway_nearest (n : Int) {d : Int} (hd : 0 < d) :
    2 * (roundHalfAway n d * d - n).natAbs ≤ d ∧
      (2 * ((roundHalfAway n d * d - n).natAbs : Int) = d → n.natAbs < (roundHalfAway n d * d).natAbs) := by
  rcases le_total 0 n with nonneg | nonpos
  · obtain ⟨lower, upper⟩ := roundHalfAway_bracket nonneg hd
    constructor <;> omega
  · obtain ⟨lower, upper⟩ := roundHalfAway_bracket (neg_nonneg.mpr nonpos) hd
    rw [roundHalfAway_neg n hd, neg_mul] at lower upper
    constructor <;> omega

/-! ## Motion frames (R4) -/

/-- The least number of frames of `t` ms that last `ms` ms. -/
theorem frames_le_iff {ms t k : Nat} (ht : 0 < t) : frames ms t ≤ k ↔ ms ≤ k * t := by
  unfold frames ceilDiv
  rw [← Nat.lt_add_one_iff, Nat.div_lt_iff_lt_mul ht, add_mul, one_mul]
  omega

/-! ## Drum counts (R18, R19) -/

/-- The operand of the rounding in R18, for a length between the limits of a set in range. -/
theorem natAbs_countsOf_operand_le {p : AxisParams} {len : Int} (range : paramsInRange p = true)
    (short : 1000 * (p.lmin : Int) ≤ len) (long : len ≤ 1000 * p.lmax) :
    ((len - 1000 * p.l0) * p.k).natAbs ≤ 60000000 * 65535 := by
  simp only [paramsInRange, within, Bool.and_eq_true, decide_eq_true_eq] at range
  obtain ⟨⟨⟨⟨⟨⟨⟨⟨⟨⟨-, l0⟩, k⟩, lmin⟩, lmax⟩, -⟩, -⟩, -⟩, -⟩, -⟩, -⟩ := range
  rw [Int.natAbs_mul]
  exact Nat.mul_le_mul (by omega) (by omega)

theorem countsOf_bounded {p : AxisParams} {len : Int} (range : paramsInRange p = true)
    (short : 1000 * (p.lmin : Int) ≤ len) (long : len ≤ 1000 * p.lmax) :
    -8388607 ≤ countsOf p len ∧ countsOf p len ≤ 8388607 := by
  have operand := natAbs_countsOf_operand_le range short long
  have near := (roundHalfAway_nearest ((len - 1000 * p.l0) * p.k) (d := 1000000) (by decide)).1
  unfold countsOf
  omega

end Sys2Proof.Machine
end

