-- ==== Sys2Proof/Proofs/SlabTest.lean ====
section
/-! The slab test (R50): what the running interval admits, and how each component narrows it. -/

namespace Sys2Proof.Machine

/-! ## Fractions as an order (R5) -/

theorem Fraction.le_iff (a b : Fraction) : a.le b = true ↔ a.num * b.den ≤ b.num * a.den := decide_eq_true_iff

theorem Fraction.le_total (a b : Fraction) : a.le b = true ∨ b.le a = true := by
  simpa only [Fraction.le_iff] using Int.le_total ..

theorem Fraction.le_trans {a b c : Fraction} (ha : 0 ≤ a.den) (hb : 0 < b.den) (hc : 0 ≤ c.den)
    (ab : a.le b = true) (bc : b.le c = true) : a.le c = true := by
  rw [Fraction.le_iff] at *
  refine le_of_mul_le_mul_right ?_ hb
  calc a.num * c.den * b.den = a.num * b.den * c.den := mul_right_comm ..
    _ ≤ b.num * a.den * c.den := mul_le_mul_of_nonneg_right ab hc
    _ = b.num * c.den * a.den := mul_right_comm ..
    _ ≤ c.num * b.den * a.den := mul_le_mul_of_nonneg_right bc ha
    _ = c.num * a.den * b.den := mul_right_comm ..

theorem Fraction.greater_le_iff {a b t : Fraction} (ha : 0 < a.den) (hb : 0 < b.den) (ht : 0 < t.den) :
    (a.greater b).le t = true ↔ a.le t = true ∧ b.le t = true := by
  unfold Fraction.greater
  split
  · next ab => exact ⟨fun bt => ⟨Fraction.le_trans ha.le hb ht.le ab bt, bt⟩, And.right⟩
  · next ab =>
    have ba := (Fraction.le_total a b).resolve_left ab
    exact ⟨fun hat => ⟨hat, Fraction.le_trans hb.le ha ht.le ba hat⟩, And.left⟩

theorem Fraction.le_lesser_iff {a b t : Fraction} (ha : 0 < a.den) (hb : 0 < b.den) (ht : 0 < t.den) :
    t.le (a.lesser b) = true ↔ t.le a = true ∧ t.le b = true := by
  unfold Fraction.lesser
  split
  · next ab => exact ⟨fun ta => ⟨ta, Fraction.le_trans ht.le ha hb.le ta ab⟩, And.left⟩
  · next ab =>
    have ba := (Fraction.le_total a b).resolve_left ab
    exact ⟨fun tb => ⟨Fraction.le_trans ht.le hb ha.le tb ba, tb⟩, And.right⟩

theorem Fraction.greater_den_pos {a b : Fraction} (ha : 0 < a.den) (hb : 0 < b.den) : 0 < (a.greater b).den := by
  unfold Fraction.greater
  split
  · exact hb
  · exact ha

theorem Fraction.lesser_den_pos {a b : Fraction} (ha : 0 < a.den) (hb : 0 < b.den) : 0 < (a.lesser b).den := by
  unfold Fraction.lesser
  split
  · exact ha
  · exact hb

/-! ## The running interval -/

/-- The part of the segment that the slab test has not yet cut away. -/
abbrev SlabInterval := Option (Fraction × Fraction)

/-- Both ends of the interval, where there is one, are fractions with a positive denominator. -/
def SlabInterval.Proper (iv : SlabInterval) : Prop := ∀ e ∈ iv, 0 < e.1.den ∧ 0 < e.2.den

/-- The point at the fraction `t` of the segment is left in the interval. -/
def SlabInterval.Admits (iv : SlabInterval) (t : Fraction) : Prop := ∃ e ∈ iv, e.1.le t = true ∧ t.le e.2 = true

/-- The point at the fraction `t` of a component that starts at `p` and changes by `c` lies from `lo` to `hi`. -/
def Fraction.liesIn (lo hi p c : Int) (t : Fraction) : Prop :=
  t.den * lo ≤ t.den * p + t.num * c ∧ t.den * p + t.num * c ≤ t.den * hi

theorem Fraction.liesIn_zero_iff {lo hi p : Int} {t : Fraction} (ht : 0 < t.den) :
    t.liesIn lo hi p 0 ↔ lo ≤ p ∧ p ≤ hi := by
  simp [Fraction.liesIn, ht]

/-! ## One component of the test -/

@[simp] theorem slab_none (lo hi p c : Int) : slab lo hi p c none = none := rfl

theorem slab_zero (lo hi p : Int) (e : Fraction × Fraction) :
    slab lo hi p 0 (some e) = if lo ≤ p ∧ p ≤ hi then some e else none := rfl

/-- A component that changes cuts the interval at both ends, by the fractions at which it passes `lo` and `hi`. -/
theorem slab_cuts (lo hi p : Int) {c : Int} (hc : c ≠ 0) :
    ∃ first last : Fraction, 0 < first.den ∧ 0 < last.den ∧
      (∀ e, slab lo hi p c (some e) = some (e.1.greater first, e.2.lesser last)) ∧
      ∀ t : Fraction, first.le t = true ∧ t.le last = true ↔ t.liesIn lo hi p c := by
  rcases lt_or_gt_of_ne hc with falls | rises
  · refine ⟨⟨p - hi, -c⟩, ⟨p - lo, -c⟩, neg_pos.mpr falls, neg_pos.mpr falls, fun e => ?_, fun t => ?_⟩
    · simp only [slab, if_neg hc, if_neg falls.not_gt]
    · simp only [Fraction.le_iff, Fraction.liesIn]
      exact ⟨fun ⟨after, before⟩ => ⟨by linarith, by linarith⟩, fun ⟨above, below⟩ => ⟨by linarith, by linarith⟩⟩
  · refine ⟨⟨lo - p, c⟩, ⟨hi - p, c⟩, rises, rises, fun e => ?_, fun t => ?_⟩
    · simp only [slab, if_neg hc, if_pos rises]
    · simp only [Fraction.le_iff, Fraction.liesIn]
      exact ⟨fun ⟨after, before⟩ => ⟨by linarith, by linarith⟩, fun ⟨above, below⟩ => ⟨by linarith, by linarith⟩⟩

theorem slab_proper (lo hi p c : Int) {iv : SlabInterval} (proper : iv.Proper) :
    SlabInterval.Proper (slab lo hi p c iv) := by
  intro e he
  cases iv with
  | none => cases he
  | some ends =>
    obtain ⟨low, high⟩ := proper ends rfl
    rcases eq_or_ne c 0 with rfl | hc
    · rw [slab_zero, Option.mem_ite_none_right] at he
      exact proper e he.2
    · obtain ⟨first, last, hfirst, hlast, cut, -⟩ := slab_cuts lo hi p hc
      rw [cut] at he
      cases he
      exact ⟨Fraction.greater_den_pos low hfirst, Fraction.lesser_den_pos high hlast⟩

/-- Each component leaves exactly those points of the segment that its range holds. -/
theorem slab_admits_iff (lo hi p c : Int) {iv : SlabInterval} {t : Fraction} (proper : iv.Proper) (ht : 0 < t.den) :
    SlabInterval.Admits (slab lo hi p c iv) t ↔ iv.Admits t ∧ t.liesIn lo hi p c := by
  cases iv with
  | none => simp [SlabInterval.Admits]
  | some ends =>
    obtain ⟨low, high⟩ := proper ends rfl
    rcases eq_or_ne c 0 with rfl | hc
    · rw [slab_zero, Fraction.liesIn_zero_iff ht]
      split
      · next inside => exact (and_iff_left inside).symm
      · next outside => simp [SlabInterval.Admits, outside]
    · obtain ⟨first, last, hfirst, hlast, cut, between⟩ := slab_cuts lo hi p hc
      simp only [SlabInterval.Admits, cut, Option.mem_some_iff, exists_eq_left',
        Fraction.greater_le_iff low hfirst ht, Fraction.le_lesser_iff high hlast ht, ← between]
      exact and_and_and_comm

/-! ## The three components -/

/-- The whole segment: the fractions from 0 to 1. -/
def SlabInterval.whole : SlabInterval := some (⟨0, 1⟩, ⟨1, 1⟩)

theorem SlabInterval.whole_proper : SlabInterval.whole.Proper := by
  rintro e ⟨⟩
  exact ⟨Int.one_pos, Int.one_pos⟩

theorem SlabInterval.whole_admits_iff (t : Fraction) :
    SlabInterval.whole.Admits t ↔ 0 ≤ t.num ∧ t.num ≤ t.den := by
  simp [SlabInterval.Admits, SlabInterval.whole, Fraction.le_iff]

/-- The interval that the test of a segment ends with. -/
def segmentInterval (guard : Int) (b : Box) (p q : Vec3) : SlabInterval :=
  slab (1000 * b.lo.z - guard) (1000 * b.hi.z + guard) p.z (q.sub p).z
    (slab (1000 * b.lo.y - guard) (1000 * b.hi.y + guard) p.y (q.sub p).y
      (slab (1000 * b.lo.x - guard) (1000 * b.hi.x + guard) p.x (q.sub p).x SlabInterval.whole))

theorem segmentInterval_proper (guard : Int) (b : Box) (p q : Vec3) : (segmentInterval guard b p q).Proper :=
  slab_proper _ _ _ _ (slab_proper _ _ _ _ (slab_proper _ _ _ _ SlabInterval.whole_proper))

theorem segmentInterval_admits_iff (guard : Int) (b : Box) (p q : Vec3) {t : Fraction} (ht : 0 < t.den) :
    (segmentInterval guard b p q).Admits t ↔ (0 ≤ t.num ∧ t.num ≤ t.den) ∧
      ∀ i : Fin 3, t.liesIn (1000 * component b.lo i - guard) (1000 * component b.hi i + guard)
        (component p i) (component (q.sub p) i) := by
  have x := SlabInterval.whole_proper
  have y := slab_proper (1000 * b.lo.x - guard) (1000 * b.hi.x + guard) p.x (q.sub p).x x
  have z := slab_proper (1000 * b.lo.y - guard) (1000 * b.hi.y + guard) p.y (q.sub p).y y
  rw [segmentInterval, slab_admits_iff _ _ _ _ z ht, slab_admits_iff _ _ _ _ y ht, slab_admits_iff _ _ _ _ x ht,
    SlabInterval.whole_admits_iff, and_assoc, and_assoc]
  refine and_congr_right fun _ => ⟨fun ⟨hx, hy, hz⟩ i => ?_, fun inside => ⟨inside 0, inside 1, inside 2⟩⟩
  match i with
  | 0 => exact hx
  | 1 => exact hy
  | 2 => exact hz

/-- An interval whose ends are in order admits its own lower end; one that admits a point has its ends in order. -/
theorem SlabInterval.exists_admits_iff {iv : SlabInterval} (proper : iv.Proper) :
    (∃ t : Fraction, 0 < t.den ∧ iv.Admits t) ↔ ∃ e ∈ iv, e.1.le e.2 = true := by
  constructor
  · rintro ⟨t, ht, e, he, low, high⟩
    obtain ⟨lowDen, highDen⟩ := proper e he
    exact ⟨e, he, Fraction.le_trans lowDen.le ht highDen.le low high⟩
  · rintro ⟨e, he, ordered⟩
    exact ⟨e.1, (proper e he).1, e, he, (Fraction.le_iff ..).mpr le_rfl, ordered⟩

theorem segmentEnters_eq_true_iff (guard : Int) (b : Box) (p q : Vec3) :
    segmentEnters guard b p q = true ↔ ∃ e ∈ segmentInterval guard b p q, e.1.le e.2 = true := by
  change (match segmentInterval guard b p q with | none => false | some (l, u) => l.le u) = true ↔ _
  cases segmentInterval guard b p q <;> simp

/-- The test holds exactly where some fraction of the segment lies in the grown box. -/
theorem segmentEnters_iff_exists_fraction (guard : Int) (b : Box) (p q : Vec3) :
    segmentEnters guard b p q = true ↔ ∃ t : Fraction, 0 < t.den ∧ (0 ≤ t.num ∧ t.num ≤ t.den) ∧
      ∀ i : Fin 3, t.liesIn (1000 * component b.lo i - guard) (1000 * component b.hi i + guard)
        (component p i) (component (q.sub p) i) := by
  rw [segmentEnters_eq_true_iff, ← SlabInterval.exists_admits_iff (segmentInterval_proper guard b p q)]
  exact exists_congr fun t => and_congr_right fun ht => segmentInterval_admits_iff guard b p q ht

/-! ## The obligation -/

/-- Settles O51: the roots, roundings, frames and counts from their brackets, and the slab test by the fractions that
its interval admits. -/
theorem rootsRoundingsAndTheSlabTestAreExact : Obligations.RootsRoundingsAndTheSlabTestAreExact := by
  unfold Obligations.RootsRoundingsAndTheSlabTestAreExact
  refine ⟨fun n => ?roots, fun n d hd => roundHalfAway_nearest n hd, fun ms t ht => ?frames, fun p len => ?counts,
    fun guard b p q _ => ?slab⟩
  case roots =>
    obtain ⟨below, above⟩ := rootDown_bracket n
    exact ⟨below, above, rootNearest_bracket n⟩
  case frames => exact ⟨(frames_le_iff ht).mp le_rfl, fun k => (frames_le_iff ht).mpr⟩
  case counts => exact ⟨rfl, countsOf_bounded⟩
  case slab =>
    rw [segmentEnters_iff_exists_fraction]
    constructor
    · rintro ⟨⟨n, d⟩, hd, ⟨h0, h1⟩, inside⟩
      exact ⟨n, d, hd, h0, h1, inside⟩
    · rintro ⟨n, d, hd, h0, h1, inside⟩
      exact ⟨⟨n, d⟩, hd, ⟨h0, h1⟩, inside⟩

end Sys2Proof.Machine
end

section
/-! What a request that is taken does, said once for every request, and CLEAR_FLYER by it (R33, R176, R177). -/

namespace Sys2Proof.Machine

variable {q : Req} {s v : State}

/-! ## A request that is taken (R176, R177) -/

/-- What a tame operation leaves unchanged at a station port. -/
theorem Tame.station {t : State} (h : Tame s t) (st : Station) : t.station st = s.station st := by
  obtain ⟨_, _, _, rfl⟩ := h.frame
  cases st <;> rfl

/-- The enable and the link of an arriving frame leave the responses that wait at its port (R176 steps 1 and 2). -/
theorem queue_station_arrive (st : Station) (enable : Bool) (s : State) :
    ((arrive st enable s).station st).queue = (s.station st).queue := by
  unfold arrive
  cases enable <;> simp [(enableRelease_tame st _).station]

/-- A request that is taken is decided by its own rule, over the state that its frame's arrival leaves. -/
theorem takeRequest_of_taken (taken : Taken q s) (code : Nat) (body : State → State × Reply) :
    takeRequest q code body s =
      .next (finish (answer q code (body (arrived q s)).2 (body (arrived q s)).1)) := by
  have room : ¬ Config.queuePlaces ≤ ((arrive q.st q.enable s).station q.st).queue.length := by
    rw [queue_station_arrive]
    exact taken.room.not_ge
  simp only [takeRequest, whileRunning, serve, taken.running, taken.fits, if_neg room, if_true, arrived]

section
variable {c : Instr} {code : Nat} {body : State → State × Reply}

theorem Taken.refused {r : ResultCode} {items : List Item} (taken : Taken q s)
    (meaning : exec c s = takeRequest q code body s) (row : body (arrived q s) = refuse r items v) :
    Refused c q code r items s v := by
  rw [Refused, Answered, meaning, takeRequest_of_taken taken, row]
  rfl

theorem Taken.completed (taken : Taken q s) (meaning : exec c s = takeRequest q code body s)
    (row : body (arrived q s) = done v) : Completed c q code s v := by
  rw [Completed, Answered, meaning, takeRequest_of_taken taken, row]
  rfl

end

/-! ## The conditions of the rows -/

@[simp] theorem flyerNamed_val (f : FlyerId) : flyerNamed f.val = some f := dif_pos f.isLt

theorem flyerNamed_of_le {n : Nat} (outside : 4 ≤ n) : flyerNamed n = none := dif_neg outside.not_gt

/-- Without the edit grant, the flyer has an owner and it is the other station (R181). -/
theorem editGrant_eq_false_iff {f : FlyerId} :
    editGrant q f s = false ↔ (s.grant f).owner ≠ none ∧ (s.grant f).owner ≠ some q.st := by
  simp [editGrant]

@[simp] theorem saving_iff : saving s = true ↔ s.image = .saving := decide_eq_true_iff

/-! ## CLEAR_FLYER (R33) -/

theorem exec_clearFlyer (q : Req) (n : Nat) (s : State) :
    exec (.clearFlyer q n) s = takeRequest q 0x22 (clearFlyerBody q n) s := rfl

theorem clearFlyerBody_of_le {n : Nat} (outside : 4 ≤ n) : clearFlyerBody q n s = refuse .badValue [] s := by
  rw [clearFlyerBody, flyerNamed_of_le outside]

/-- The rows of R33 for a flyer that there is. -/
theorem clearFlyerBody_val (q : Req) (f : FlyerId) (s : State) :
    clearFlyerBody q f.val s =
      if (s.grant f).owner ≠ none ∧ (s.grant f).owner ≠ some q.st then refuse .notOwner [] s
      else if s.image = .saving then refuse .busy [] s
      else if (s.flyer f).state = .undefined then done s
      else if (s.flyer f).state.restOutsideRun = false ∨ someEngaged s f = true ∨ (formationNaming s f).isSome = true then
        refuse .busy [] s
      else done ((s.setFlyer f Flyer.initial).setGrant f Grant.initial) := by
  simp only [clearFlyerBody, flyerNamed_val, editGrant_eq_false_iff, saving_iff]

/-- Settles O17: each row of R33 in turn, answered as a request that is taken. -/
theorem clearFlyerRemovesTheDefinition : Obligations.ClearFlyerRemovesTheDefinition := by
  unfold Obligations.ClearFlyerRemovesTheDefinition
  intro q f s taken u c
  have rows := clearFlyerBody_val q f u
  have meaning : exec c s = takeRequest q 0x22 (clearFlyerBody q f.val) s := exec_clearFlyer q f.val s
  refine ⟨fun n outside => taken.refused (exec_clearFlyer q n s) (clearFlyerBody_of_le outside), ?_⟩
  split_ifs at rows ⊢ with foreign saves undefined inUse
  · exact taken.refused meaning rows
  · exact taken.refused meaning rows
  · exact taken.completed meaning rows
  · exact taken.refused meaning rows
  · exact taken.completed meaning rows

end Sys2Proof.Machine
end

section
/-! DELETE_CUE by its rows (R78): the range of the number, the directory without the cue, and the four answers. -/

namespace Sys2Proof.Machine

variable {n m : Nat} {s : State}

/-! ## The range of a number (R181) -/

@[simp] theorem within_eq_true_iff {lo hi v : Int} : within lo hi v = true ↔ lo ≤ v ∧ v ≤ hi := decide_eq_true_iff

theorem within_cueNumber_iff : within 1 200 n = true ↔ 1 ≤ n ∧ n ≤ 200 := by
  rw [within_eq_true_iff]
  omega

/-! ## The directory without a cue (R64, R78) -/

theorem cueOf_filter_num_ne_self (dir : List Cue) (n : Nat) : cueOf (dir.filter fun c => c.num != n) n = none := by
  simp [cueOf, List.find?_eq_none]

theorem cueOf_filter_num_ne_of_ne (dir : List Cue) (other : m ≠ n) :
    cueOf (dir.filter fun c => c.num != n) m = cueOf dir m := by
  have kept (c : Cue) : (c.num != n) = true ∧ (c.num == m) = true ↔ (c.num == m) = true := by
    rw [and_iff_right_iff_imp, beq_iff_eq, bne_iff_ne]
    rintro rfl
    exact other
  simp only [cueOf, List.find?_filter, kept, Bool.decide_eq_true]

/-! ## DELETE_CUE (R78) -/

theorem exec_deleteCue (q : Req) (n : Nat) (s : State) :
    exec (.deleteCue q n) s = takeRequest q 0x31 (deleteCueBody n) s := rfl

theorem deleteCueBody_of_outside (outside : n = 0 ∨ 200 < n) : deleteCueBody n s = refuse .badValue [] s := by
  have out : within 1 200 n = false := by
    rw [← Bool.not_eq_true, within_cueNumber_iff]
    omega
  rw [deleteCueBody, if_pos out]

/-- The rows of R78 for a number in range. -/
theorem deleteCueBody_of_inside (low : 1 ≤ n) (high : n ≤ 200) (s : State) :
    deleteCueBody n s =
      if cueOf s.dir n = none then refuse .noCue [] s
      else if inReach s n = true then refuse .inUse [] s
      else done { s with dir := s.dir.filter fun c => c.num != n } := by
  have inside : within 1 200 n = true := within_cueNumber_iff.mpr ⟨low, high⟩
  cases present : cueOf s.dir n <;> simp [deleteCueBody, inside, present]

/-- Settles O25: each row of R78 in turn, answered as a request that is taken; the directory that the last row leaves is
the old one without the cue. -/
theorem deleteCueRemovesAnUnusedCue : Obligations.DeleteCueRemovesAnUnusedCue := by
  unfold Obligations.DeleteCueRemovesAnUnusedCue
  intro q n s taken u
  have meaning := exec_deleteCue q n s
  refine ⟨fun outside => ?badValue, fun low high absent => ?noCue, fun low high present used => ?inUse,
    fun low high present unused => ?done⟩
  case badValue => exact taken.refused meaning (deleteCueBody_of_outside outside)
  case noCue =>
    have row : deleteCueBody n u = refuse .noCue [] u := by
      rw [deleteCueBody_of_inside low high, if_pos absent]
    exact taken.refused meaning row
  case inUse =>
    have row : deleteCueBody n u = refuse .inUse [] u := by
      rw [deleteCueBody_of_inside low high, if_neg present, if_pos used]
    exact taken.refused meaning row
  case done =>
    have row : deleteCueBody n u = done { u with dir := u.dir.filter fun c => c.num != n } := by
      rw [deleteCueBody_of_inside low high, if_neg present, if_neg (Bool.eq_false_iff.mp unused)]
    exact ⟨_, taken.completed meaning row, cueOf_filter_num_ne_self u.dir n,
      fun m other => cueOf_filter_num_ne_of_ne u.dir other⟩

end Sys2Proof.Machine
end

section
/-! Every event ends settled: the alarm output as R169 has it, and no marked flyer at rest for grants (R185). -/

namespace Sys2Proof.Machine

variable {s t : State} {f g : FlyerId}

/-! ## The marks (R185) -/

/-- What one element of a sequence brings about, and every other keeps, holds after the sequence. -/
theorem forEach_brings {α : Type} (P : State → Prop) (g : α → State → State) {l : List α} {x : α} (mem : x ∈ l)
    (brings : ∀ s, P (g x s)) (keeps : ∀ y s, P s → P (g y s)) (s : State) : P (forEach l g s) := by
  induction l generalizing s with
  | nil => exact absurd mem List.not_mem_nil
  | cons y l ih =>
    rw [forEach_cons]
    rcases List.mem_cons.mp mem with rfl | later
    · exact forEach_keeps P g l _ (fun z _ => keeps z) (brings s)
    · exact ih later _

/-- The flyer is not both marked and at rest for grants. -/
def Weighed (f : FlyerId) (s : State) : Prop := (s.grant f).mark = true → allRestForGrants s f = false

theorem settled_iff : Settled s ↔ s.alarm = alarmLine s ∧ ∀ f, Weighed f s := Iff.rfl

/-- Rest is read off the flyers and the formations, which settling a grant leaves. -/
@[simp] theorem allRestForGrants_settleGrant (f g : FlyerId) (s : State) :
    allRestForGrants (settleGrant g s) f = allRestForGrants s f := by
  unfold settleGrant
  split <;> rfl

theorem weighed_settleGrant_self (f : FlyerId) (s : State) : Weighed f (settleGrant f s) := by
  intro marked
  rw [grant_settleGrant] at marked
  rw [allRestForGrants_settleGrant, ← Bool.not_eq_true]
  intro rests
  split at marked
  · cases marked
  · next kept => exact kept ⟨rfl, marked, rests⟩

theorem Weighed.settleGrant (weighed : Weighed f s) (g : FlyerId) : Weighed f (settleGrant g s) := by
  intro marked
  rw [grant_settleGrant] at marked
  rw [allRestForGrants_settleGrant]
  split at marked
  · cases marked
  · exact weighed marked

theorem mem_allFlyers (f : FlyerId) : f ∈ allFlyers := by fin_cases f <;> decide

/-! ## The end of an event (R169, R185) -/

/-- The alarm line and rest are not read off the alarm output. -/
theorem settled_withAlarm (weighed : ∀ f, Weighed f s) : Settled { s with alarm := alarmLine s } := ⟨rfl, weighed⟩

/-- Whatever an event did, its end leaves the part settled. -/
theorem settled_finish (s : State) : Settled (finish s) :=
  settled_withAlarm fun f =>
    forEach_brings (Weighed f) settleGrant (mem_allFlyers f) (weighed_settleGrant_self f)
      (fun g _ weighed => weighed.settleGrant g) s

/-- A command that acts while the part is running, and is not taken otherwise, keeps the part settled. -/
theorem Settled.whileRunning {g : State → State} (settled : Settled s) (h : whileRunning s g = .next t) : Settled t := by
  unfold Machine.whileRunning at h
  split at h <;> cases h
  · exact settled_finish _
  · exact settled

theorem Settled.takeRequest {q : Req} {code : Nat} {body : State → State × Reply} (settled : Settled s)
    (h : takeRequest q code body s = .next t) : Settled t :=
  settled.whileRunning h

/-! ## The resets (R192) -/

theorem alarmLine_eq_false_iff : alarmLine s = false ↔ s.allStop = none ∧ ∀ f, (s.flyer f).state ≠ .faulted := by
  simp [alarmLine, mem_allFlyers]

/-- With the alarm output deasserted, all-stop inactive, no flyer FAULTED and no mark, the part is settled. -/
theorem settled_of_quiet (alarm : s.alarm = false) (allStop : s.allStop = none)
    (flyers : ∀ f, (s.flyer f).state ≠ .faulted) (marks : ∀ f, (s.grant f).mark = false) : Settled s := by
  refine settled_iff.mpr ⟨?_, fun f marked => ?_⟩
  · rw [alarm, alarmLine_eq_false_iff.mpr ⟨allStop, flyers⟩]
  · rw [marks f] at marked
    cases marked

@[simp] theorem flyer_poweredOn (s : State) (f : FlyerId) : (poweredOn s).flyer f = Flyer.initial :=
  Vector.getElem_replicate f.isLt

@[simp] theorem grant_poweredOn (s : State) (f : FlyerId) : (poweredOn s).grant f = Grant.initial :=
  Vector.getElem_replicate f.isLt

@[simp] theorem flyer_warmed (s : State) (f : FlyerId) : (warmed s).flyer f = warmFlyer (s.flyer f) :=
  Vector.getElem_map _ f.isLt

@[simp] theorem grant_warmed (s : State) (f : FlyerId) : (warmed s).grant f = Grant.initial := grant_poweredOn s f

theorem settled_poweredOn (s : State) : Settled (poweredOn s) := by
  refine settled_of_quiet rfl rfl (fun f => ?_) (fun f => ?_)
  · rw [flyer_poweredOn]
    decide
  · rw [grant_poweredOn]
    rfl

theorem warmFlyer_state_ne_faulted (x : Flyer) : (warmFlyer x).state ≠ .faulted := by
  unfold warmFlyer
  dsimp only
  split <;> decide

theorem settled_warmed (s : State) : Settled (warmed s) := by
  refine settled_of_quiet rfl rfl (fun f => ?_) (fun f => ?_)
  · rw [flyer_warmed]
    exact warmFlyer_state_ne_faulted _
  · rw [grant_warmed]
    rfl

/-! ## Every command -/

/-- The commands of the chain and of the resets, the other events, and the requests. -/
theorem Settled.exec {c : Instr} (settled : Settled s) (h : exec c s = .next t) : Settled t := by
  cases c with
  | estopChain =>
    simp only [Machine.exec, execEstopChain] at h
    split_ifs at h <;> obtain rfl := Host.Outcome.next.inj h
    · exact settled
    · exact settled_finish _
    · exact settled
  | stopChainClosed =>
    obtain rfl := Host.Outcome.next.inj h
    exact settled
  | powerOnReset =>
    obtain rfl := Host.Outcome.next.inj h
    exact settled_poweredOn s
  | warmReset =>
    simp only [Machine.exec, execWarmReset] at h
    split at h <;> obtain rfl := Host.Outcome.next.inj h
    · exact settled_poweredOn s
    · exact settled_warmed s
    · exact settled_warmed s
  | startUpEnd answers =>
    simp only [Machine.exec, execStartUpEnd] at h
    split at h <;> obtain rfl := Host.Outcome.next.inj h
    · exact settled_finish _
    · exact settled_finish _
    · exact settled
  | cueSegment | unknownRequest | stationFrameDiscarded | responseQueueFull | responseSent | silenceTimerExpiry
  | motionFrame | feedbackFrame | feedbackDiscarded | feedbackLost | brakeTimeout | dwellEnd | jogValidityExpiry | cutoff
  | flashOperationDone | saveBusyTimeout | showClockTick =>
    simp only [Machine.exec] at h
    exact settled.whileRunning h
  | _ => exact settled.takeRequest h

/-- Settles O55: the queue is no part of what is settled, and every command keeps it. -/
theorem everyStepSettlesAlarmAndGrants : Obligations.EveryStepSettlesAlarmAndGrants := by
  unfold Obligations.EveryStepSettlesAlarmAndGrants
  intro s t settled h
  unfold step at h
  split at h
  · cases h
    exact settled
  · next rest _ =>
    have dequeued : Settled { s with pending := rest } := settled
    exact dequeued.exec h

end Sys2Proof.Machine
end

section
/-! The fault log by its mode with the requests that set the mode and clear it (R172, R173), and RAISE_ALARM by its
number, class and flyer (R168, R202). -/

namespace Sys2Proof.Machine

variable {st : Station} {q : Req} {n number cls flyer : Nat} {s : State} {l : List LogEntry}

/-! ## An entry offered to the log (R172) -/

theorem logAfter_newest_of_room (room : l.length < 24) (e : LogEntry) : logAfter .newest l e = l ++ [e] := if_pos room

theorem logAfter_newest_of_full (full : 24 ≤ l.length) (e : LogEntry) : logAfter .newest l e = l.drop 1 ++ [e] := by
  rw [List.drop_one]
  exact if_neg full.not_gt

theorem logAfter_first_of_room (room : l.length < 24) (e : LogEntry) : logAfter .first l e = l ++ [e] := if_pos room

theorem logAfter_first_of_full (full : 24 ≤ l.length) (e : LogEntry) : logAfter .first l e = l := if_neg full.not_gt

/-! ## SET_LOG_MODE and CLEAR_LOG (R173) -/

theorem exec_setLogMode (q : Req) (n : Nat) (s : State) :
    exec (.setLogMode q n) s = takeRequest q 0x55 (setLogModeBody n) s := rfl

theorem exec_clearLog (q : Req) (s : State) :
    exec (.clearLog q) s = takeRequest q 0x56 (fun t => done { t with log := [] }) s := rfl

theorem logModeNamed_of_lt (outside : 2 < n) : logModeNamed n = none := by
  rw [logModeNamed, if_neg (by omega), if_neg (by omega), if_neg (by omega)]

theorem logModeNamed_of_le (inside : n ≤ 2) : ∃ m, logModeNamed n = some m := by
  unfold logModeNamed
  split_ifs
  · exact ⟨_, rfl⟩
  · exact ⟨_, rfl⟩
  · exact ⟨_, rfl⟩
  · omega

theorem setLogModeBody_of_lt (outside : 2 < n) : setLogModeBody n s = refuse .badValue [] s := by
  rw [setLogModeBody, logModeNamed_of_lt outside]

/-- The rows of R173 for a number that names a mode. -/
theorem setLogModeBody_named {m : LogMode} (named : logModeNamed n = some m) :
    setLogModeBody n s = if s.image = .saving then refuse .busy [] s else done { s with logMode := m } := by
  simp only [setLogModeBody, named, saving_iff]

theorem setLogModeBody_done {m : LogMode} (named : logModeNamed n = some m) (idle : s.image ≠ .saving) :
    setLogModeBody n s = done { s with logMode := m } := by
  rw [setLogModeBody_named named, if_neg idle]

/-- Settles O40: the log by room and mode, and each row of R173 in turn, answered as a request that is taken. -/
theorem theLogKeepsEntriesByItsMode : Obligations.TheLogKeepsEntriesByItsMode := by
  unfold Obligations.TheLogKeepsEntriesByItsMode
  refine ⟨fun l e => ⟨fun room => ?room, fun full => ?full, rfl⟩, fun q n s taken => ?requests⟩
  case room => exact ⟨logAfter_newest_of_room room e, logAfter_first_of_room room e⟩
  case full => exact ⟨logAfter_newest_of_full full e, logAfter_first_of_full full e⟩
  case requests =>
    intro u c
    have meaning := exec_setLogMode q n s
    have sets {m : LogMode} (idle : u.image ≠ .saving) (named : logModeNamed n = some m) :
        Completed c q 0x55 s { u with logMode := m } :=
      taken.completed meaning (setLogModeBody_done named idle)
    refine ⟨fun outside => taken.refused meaning (setLogModeBody_of_lt outside), fun inside => ⟨fun saves => ?busy,
      fun idle => ⟨fun zero => sets idle (by rw [zero]; rfl), fun one => sets idle (by rw [one]; rfl),
        fun two => sets idle (by rw [two]; rfl)⟩⟩, taken.completed (exec_clearLog q s) rfl⟩
    case busy =>
      obtain ⟨m, named⟩ := logModeNamed_of_le inside
      have row : setLogModeBody n u = refuse .busy [] u := by rw [setLogModeBody_named named, if_pos saves]
      exact taken.refused meaning row

/-! ## RAISE_ALARM (R168) -/

theorem exec_raiseAlarm (q : Req) (number cls flyer : Nat) (s : State) :
    exec (.raiseAlarm q number cls flyer) s = takeRequest q 0x52 (raiseAlarmBody q.st number cls flyer) s := rfl

theorem within_alarmNumber_eq_false_iff : within 1 99 number = false ↔ number = 0 ∨ 99 < number := by
  rw [← Bool.not_eq_true, within_eq_true_iff]
  omega

/-- What R168 and R202 leave out: of the numbers, of the flyers of a FLYER_STOP, and of the classes. -/
theorem raiseAlarmBody_badValue
    (outside : number = 0 ∨ 99 < number ∨ cls = 2 ∨ 3 < cls ∨ (cls = 1 ∧ 3 < flyer)) :
    raiseAlarmBody st number cls flyer s = refuse .badValue [] s := by
  simp only [raiseAlarmBody, within_alarmNumber_eq_false_iff]
  split_ifs with range note flyerStop allStop
  · rfl
  · omega
  · rw [flyerNamed_of_le (by omega)]
  · omega
  · rfl

section
variable (inside : ¬(number = 0 ∨ 99 < number))
include inside

theorem raiseAlarmBody_note :
    raiseAlarmBody st number 0 flyer s = done (logCause (stationAlarm st number) .note none s) := by
  simp [raiseAlarmBody, within_alarmNumber_eq_false_iff, inside]

theorem raiseAlarmBody_flyerStop (f : FlyerId) :
    raiseAlarmBody st number 1 f.val s =
      if (s.flyer f).state = .undefined then refuse .notReady [] s
      else done (takeFault false .flyerStop (stationAlarm st number) f s) := by
  simp [raiseAlarmBody, within_alarmNumber_eq_false_iff, inside]

theorem raiseAlarmBody_allStop :
    raiseAlarmBody st number 3 flyer s = done (raiseAllStop (stationAlarm st number) s) := by
  simp [raiseAlarmBody, within_alarmNumber_eq_false_iff, inside]

end

/-- Settles O36: each class of R168 in turn, answered as a request that is taken. -/
theorem raiseAlarmActsByItsClass : Obligations.RaiseAlarmActsByItsClass := by
  unfold Obligations.RaiseAlarmActsByItsClass
  intro q number cls flyer s taken u c e
  have meaning := exec_raiseAlarm q number cls flyer s
  refine ⟨fun outside => taken.refused meaning (raiseAlarmBody_badValue outside),
    fun low high => ?classes⟩
  have inside : ¬(number = 0 ∨ 99 < number) := by omega
  refine ⟨?note, ?flyerStop, ?allStop⟩
  case note =>
    rintro rfl
    exact taken.completed meaning (raiseAlarmBody_note inside)
  case flyerStop =>
    rintro rfl f rfl
    have rows := raiseAlarmBody_flyerStop (st := q.st) (s := u) inside f
    refine ⟨fun undefined => ?_, fun defined => ?_⟩
    · exact taken.refused meaning (rows.trans (if_pos undefined))
    · exact taken.completed meaning (rows.trans (if_neg defined))
  case allStop =>
    rintro rfl
    exact taken.completed meaning (raiseAlarmBody_allStop inside)

end Sys2Proof.Machine
end

section
/-! CLEAR_FAULT by its checks and its effect on every flyer concerned, and CLEAR_AXIS by its rows (R29, R41, R170,
R171). -/

namespace Sys2Proof.Machine

variable {q : Req} {s t u : State} {fs : List FlyerId} {f g : FlyerId} {a : AxisId}

/-! ## The flyers concerned and their members (R31, R43, R45) -/

theorem formation_of_formationNaming {e : FormationId × Formation} (naming : formationNaming s f = some e) :
    s.formation e.1 = some e.2 := by
  obtain ⟨n, _, found⟩ := List.exists_of_findSome?_eq_some naming
  split at found
  · next m stands =>
    split_ifs at found
    cases found
    exact stands
  · cases found

theorem nodup_concernedFlyers (sound : FormationsSound s) (f : FlyerId) : (concernedFlyers s f).Nodup := by
  unfold concernedFlyers concerned
  split
  · next e naming => exact sound.2 e.1 e.2 (formation_of_formationNaming naming)
  · exact List.nodup_singleton f

theorem membersOf_of_defn (same : (t.flyer f).defn = (s.flyer f).defn) : membersOf t f = membersOf s f := by
  unfold membersOf
  rw [same]

theorem nodup_flatMap_membersOf (apart : MembersApart s) (nodup : fs.Nodup) : (fs.flatMap (membersOf s)).Nodup :=
  List.nodup_flatMap.mpr ⟨fun g _ => apart.2 g, nodup.imp fun other _ mine its => other (apart.1 _ _ _ mine its)⟩

/-! ## Two states that agree on a flyer and its members -/

/-- The flyer and its member axes stand in `t` as in `s`. -/
structure AgreeOn (g : FlyerId) (s t : State) : Prop where
  flyer : t.flyer g = s.flyer g
  axes : ∀ a ∈ membersOf s g, t.axis a = s.axis a

theorem AgreeOn.membersOf (same : AgreeOn g s t) : membersOf t g = membersOf s g :=
  membersOf_of_defn (by rw [same.flyer])

theorem membersReady_congr (members : membersOf t g = membersOf s g)
    (axes : ∀ a ∈ membersOf s g, t.axis a = s.axis a) : membersReady t g = membersReady s g := by
  rw [Bool.eq_iff_iff]
  simp only [membersReady, members, List.all_eq_true]
  exact forall₂_congr fun a member => by rw [axes a member]

/-! ## Changes of some flyers and their members only -/

/-- Nothing but records of the flyers of a list and of their member axes differs, and no definition. -/
structure ChangesOnly (fs : List FlyerId) (s t : State) : Prop where
  frame : ∃ A F, t = { s with axes := A, flyers := F }
  defn : ∀ g, (t.flyer g).defn = (s.flyer g).defn
  flyers : ∀ g, g ∉ fs → t.flyer g = s.flyer g
  axes : ∀ a, (∀ g ∈ fs, a ∉ membersOf s g) → t.axis a = s.axis a

theorem ChangesOnly.refl (fs : List FlyerId) (s : State) : ChangesOnly fs s s :=
  ⟨⟨s.axes, s.flyers, rfl⟩, fun _ => rfl, fun _ _ => rfl, fun _ _ => rfl⟩

theorem ChangesOnly.membersOf (only : ChangesOnly fs s t) (g : FlyerId) : membersOf t g = membersOf s g :=
  membersOf_of_defn (only.defn g)

theorem ChangesOnly.trans (first : ChangesOnly fs s t) (second : ChangesOnly fs t u) : ChangesOnly fs s u where
  frame := by
    obtain ⟨_, _, rfl⟩ := first.frame
    obtain ⟨A, F, rfl⟩ := second.frame
    exact ⟨A, F, rfl⟩
  defn g := (second.defn g).trans (first.defn g)
  flyers g outside := (second.flyers g outside).trans (first.flyers g outside)
  axes a free := by
    rw [second.axes a fun g mem => first.membersOf g ▸ free g mem, first.axes a free]

theorem ChangesOnly.forEach {α : Type} {l : List α} {c : α → State → State}
    (each : ∀ x ∈ l, ∀ s, ChangesOnly fs s (c x s)) (s : State) : ChangesOnly fs s (forEach l c s) :=
  forEach_rel (ChangesOnly fs) (ChangesOnly.refl fs) (fun _ _ _ => ChangesOnly.trans) c l each s

theorem ChangesOnly.apart (only : ChangesOnly fs s t) (apart : MembersApart s) : MembersApart t := by
  unfold MembersApart
  simp only [only.membersOf]
  exact apart

/-- A change of other flyers leaves a flyer and its members, for no axis is a member of two (R31). -/
theorem ChangesOnly.agreeOn (only : ChangesOnly fs s t) (apart : MembersApart s) (outside : g ∉ fs) :
    AgreeOn g s t where
  flyer := only.flyers g outside
  axes a member := only.axes a fun h mem its => outside (apart.1 h g a its member ▸ mem)

theorem modFlyer_changesOnly (mem : f ∈ fs) {c : Flyer → Flyer} (defn : ∀ x, (c x).defn = x.defn) (s : State) :
    ChangesOnly fs s (modFlyer f c s) where
  frame := ⟨_, _, rfl⟩
  defn := (modFlyer_tame f c defn s).defn
  flyers g outside := by rw [flyer_modFlyer, if_neg fun same : f = g => outside (same ▸ mem)]
  axes _ _ := rfl

theorem forEach_modAxis_frame (c : Axis → Axis) (l : List AxisId) (s : State) :
    ∃ A, forEach l (fun a => modAxis a c) s = { s with axes := A } := by
  refine forEach_rel (fun s t => ∃ A, t = { s with axes := A }) (fun s => ⟨s.axes, rfl⟩) ?_ _ l (fun _ _ _ => ⟨_, rfl⟩) s
  rintro _ _ _ ⟨_, rfl⟩ ⟨A, rfl⟩
  exact ⟨A, rfl⟩

theorem flyer_forEach_modAxis (c : Axis → Axis) (l : List AxisId) (s : State) (g : FlyerId) :
    (forEach l (fun a => modAxis a c) s).flyer g = s.flyer g := by
  obtain ⟨_, shape⟩ := forEach_modAxis_frame c l s
  rw [shape]
  rfl

theorem axis_forEach_modAxis_of_mem (c : Axis → Axis) {l : List AxisId} (nodup : l.Nodup) (mem : a ∈ l) (s : State) :
    (forEach l (fun a => modAxis a c) s).axis a = c (s.axis a) :=
  axis_forEach_modAxis id (fun _ => c) l s (by rwa [List.map_id]) a mem

theorem forEach_modAxis_changesOnly (c : Axis → Axis) {l : List AxisId} (members : ∀ a ∈ l, ∃ g ∈ fs, a ∈ membersOf s g) :
    ChangesOnly fs s (forEach l (fun a => modAxis a c) s) where
  frame := by
    obtain ⟨A, shape⟩ := forEach_modAxis_frame c l s
    exact ⟨A, s.flyers, shape⟩
  defn g := by rw [flyer_forEach_modAxis]
  flyers g _ := flyer_forEach_modAxis c l s g
  axes a free := by
    refine axis_forEach_modAxis_of_notMem id (fun _ => c) a l s ?_
    rw [List.map_id]
    intro mem
    obtain ⟨g, concerned, member⟩ := members a mem
    exact free g concerned member

/-! ## Disengagement and the readiness rule (R26, R35) -/

theorem disengage_changesOnly (mem : f ∈ fs) (s : State) : ChangesOnly fs s (disengage f s) :=
  forEach_modAxis_changesOnly disengageAxis fun _ member => ⟨f, mem, member⟩

@[simp] theorem flyer_disengage (f g : FlyerId) (s : State) : (disengage f s).flyer g = s.flyer g :=
  flyer_forEach_modAxis disengageAxis (membersOf s f) s g

theorem axis_disengage_of_mem (nodup : (membersOf s f).Nodup) (member : a ∈ membersOf s f) :
    (disengage f s).axis a = disengageAxis (s.axis a) :=
  axis_forEach_modAxis_of_mem disengageAxis nodup member s

theorem setFlyer_flyer_self (f : FlyerId) (s : State) : s.setFlyer f (s.flyer f) = s := by
  simp [State.setFlyer, State.flyer]

/-- The readiness rule as one change of the flyer's state, in every state. -/
theorem readiness_eq (f : FlyerId) (s : State) :
    readiness f s =
      modFlyer f (fun x => { x with state := readyState (membersReady s f) x.located x.state }) s := by
  cases st : (s.flyer f).state <;> simp only [readiness, modFlyer, readyState, st]
  all_goals rw [← st, setFlyer_flyer_self]

theorem readiness_changesOnly (mem : f ∈ fs) (s : State) : ChangesOnly fs s (readiness f s) := by
  rw [readiness_eq]
  exact modFlyer_changesOnly mem (by intro _; rfl) s

@[simp] theorem axis_readiness (f : FlyerId) (s : State) (a : AxisId) : (readiness f s).axis a = s.axis a := by
  rw [readiness_eq, axis_modFlyer]

theorem membersOf_readiness (f : FlyerId) (s : State) (g : FlyerId) : membersOf (readiness f s) g = membersOf s g :=
  membersOf_of_defn ((readiness_tame f s).defn g)

theorem flyer_readiness_self (f : FlyerId) (s : State) :
    (readiness f s).flyer f =
      { s.flyer f with
        state := readyState (membersReady (readiness f s) f) (s.flyer f).located (s.flyer f).state } := by
  rw [membersReady_congr (membersOf_readiness f s f) fun a _ => axis_readiness f s a, readiness_eq, flyer_modFlyer,
    if_pos rfl]

/-! ## One flyer cleared (R41, R170) -/

/-- A flyer that CLEAR_FAULT takes: out of FAULTED where it stands there, and then by the readiness rule (R41, R170). -/
def restored (ready : Bool) (x : Flyer) : Flyer :=
  if x.state = .faulted then
    { x with
      state := readyState ready x.located .unready
      cause := none
      frozen := false
      point := if x.located then x.point else none }
  else { x with state := readyState ready x.located .unready }

theorem defn_restored (ready : Bool) (x : Flyer) : (restored ready x).defn = x.defn := by
  unfold restored
  split <;> rfl

/-- From `s` to `t` a flyer is restored, and its members leave ENGAGED where it leaves FAULTED. -/
structure RestoredIn (g : FlyerId) (s t : State) : Prop where
  flyer : t.flyer g = restored (membersReady t g) (s.flyer g)
  axes : ∀ a ∈ membersOf s g, t.axis a = if (s.flyer g).state = .faulted then disengageAxis (s.axis a) else s.axis a

theorem RestoredIn.membersOf (done : RestoredIn g s t) : membersOf t g = membersOf s g :=
  membersOf_of_defn (by rw [done.flyer, defn_restored])

theorem RestoredIn.before (done : RestoredIn g t u) (same : AgreeOn g s t) : RestoredIn g s u where
  flyer := by rw [done.flyer, same.flyer]
  axes a member := by rw [done.axes a (same.membersOf ▸ member), same.flyer, same.axes a member]

theorem RestoredIn.after (done : RestoredIn g s t) (same : AgreeOn g t u) : RestoredIn g s u where
  flyer := by rw [same.flyer, done.flyer, membersReady_congr same.membersOf same.axes]
  axes a member := by rw [same.axes a (done.membersOf ▸ member), done.axes a member]

theorem clearFlyerFault_changesOnly (mem : f ∈ fs) (s : State) : ChangesOnly fs s (clearFlyerFault f s) := by
  unfold clearFlyerFault
  split
  · exact ((modFlyer_changesOnly mem (by intro _; rfl) s).trans (disengage_changesOnly mem _)).trans
      (readiness_changesOnly mem _)
  · exact readiness_changesOnly mem s

/-- The states in which CLEAR_FAULT is taken: FAULTED and UNREADY (R42, R170). -/
def Clears (st : FlyerState) : Prop := st = .faulted ∨ st = .unready

theorem clearFlyerFault_restores (nodup : (membersOf s g).Nodup) (clears : Clears (s.flyer g).state) :
    RestoredIn g s (clearFlyerFault g s) := by
  by_cases faulted : (s.flyer g).state = .faulted
  · have members : membersOf (modFlyer g leaveFaulted s) g = membersOf s g :=
      membersOf_of_defn ((modFlyer_tame g leaveFaulted (fun _ => rfl) s).defn g)
    rw [clearFlyerFault, if_pos faulted]
    refine ⟨?_, fun a member => ?_⟩
    · rw [flyer_readiness_self, restored, if_pos faulted]
      generalize membersReady _ g = ready
      cases located : (s.flyer g).located <;> simp [leaveFaulted, readyState, located]
    · rw [if_pos faulted, axis_readiness, axis_disengage_of_mem (members ▸ nodup) (members ▸ member), axis_modFlyer]
  · have unready : (s.flyer g).state = .unready := clears.resolve_left faulted
    rw [clearFlyerFault, if_neg faulted]
    refine ⟨?_, fun a _ => ?_⟩
    · rw [flyer_readiness_self, restored, if_neg faulted, unready]
    · rw [if_neg faulted, axis_readiness]

/-! ## CLEAR_FAULT past its checks (R170) -/

theorem forEach_clearFlyerFault_restores (apart : MembersApart s) (nodup : fs.Nodup) (mem : g ∈ fs)
    (clears : Clears (s.flyer g).state) : RestoredIn g s (forEach fs clearFlyerFault s) := by
  induction fs generalizing s with
  | nil => exact absurd mem List.not_mem_nil
  | cons f fs ih =>
    obtain ⟨notLater, nodup⟩ := List.nodup_cons.mp nodup
    have first : ChangesOnly [f] s (clearFlyerFault f s) := clearFlyerFault_changesOnly List.mem_cons_self s
    have rest : ChangesOnly fs (clearFlyerFault f s) (forEach fs clearFlyerFault (clearFlyerFault f s)) :=
      ChangesOnly.forEach (fun _ => clearFlyerFault_changesOnly) _
    rw [forEach_cons]
    rcases List.mem_cons.mp mem with rfl | later
    · exact (clearFlyerFault_restores (apart.2 g) clears).after (rest.agreeOn (first.apart apart) notLater)
    · have same : AgreeOn g s (clearFlyerFault f s) :=
        first.agreeOn apart (List.mem_singleton.not.mpr fun e => notLater (e ▸ later))
      exact (ih (first.apart apart) nodup later (same.flyer ▸ clears)).before same

/-- Every member axis of some flyers cleared. -/
def clearAxes (fs : List FlyerId) (s : State) : State :=
  forEach (fs.flatMap (membersOf s)) (fun a => modAxis a clearedAxis) s

theorem clearFaults_eq (fs : List FlyerId) (s : State) :
    clearFaults fs s = forEach fs clearFlyerFault (clearAxes fs s) := rfl

theorem clearAxes_changesOnly (fs : List FlyerId) (s : State) : ChangesOnly fs s (clearAxes fs s) :=
  forEach_modAxis_changesOnly clearedAxis fun _ => List.mem_flatMap.mp

theorem clearFaults_changesOnly (fs : List FlyerId) (s : State) : ChangesOnly fs s (clearFaults fs s) :=
  (clearAxes_changesOnly fs s).trans (ChangesOnly.forEach (fun _ => clearFlyerFault_changesOnly) _)

/-- The condition of an axis that is cleared and then released with its flyer (R26, R29). -/
theorem disengageAxis_clearedAxis (released : Prop) [Decidable released] (x : Axis) :
    (if released then disengageAxis (clearedAxis x) else clearedAxis x) =
      if x.state = .faulted then { x with state := .ready, cause := none, slack := 0 }
      else if x.state = .engaged ∧ released then { x with state := .ready, committed := none }
      else x := by
  by_cases faulted : x.state = .faulted
  · simp [clearedAxis, disengageAxis, faulted]
  · by_cases released <;> simp [clearedAxis, disengageAxis, *]

section
variable (apart : MembersApart s) (nodup : fs.Nodup) (mem : g ∈ fs) (clears : Clears (s.flyer g).state)
include apart nodup mem clears

theorem clearFaults_restores : RestoredIn g (clearAxes fs s) (clearFaults fs s) := by
  have same : (clearAxes fs s).flyer g = s.flyer g := flyer_forEach_modAxis clearedAxis _ s g
  exact forEach_clearFlyerFault_restores ((clearAxes_changesOnly fs s).apart apart) nodup mem (same ▸ clears)

theorem flyer_clearFaults :
    (clearFaults fs s).flyer g =
      restored ((membersOf s g).all fun a => decide (((clearFaults fs s).axis a).state = .ready)) (s.flyer g) := by
  have same : (clearAxes fs s).flyer g = s.flyer g := flyer_forEach_modAxis clearedAxis _ s g
  rw [← same, (clearFaults_restores apart nodup mem clears).flyer, membersReady,
    (clearFaults_changesOnly fs s).membersOf]

theorem axis_clearFaults (member : a ∈ membersOf s g) :
    (clearFaults fs s).axis a =
      if (s.axis a).state = .faulted then { s.axis a with state := .ready, cause := none, slack := 0 }
      else if (s.axis a).state = .engaged ∧ (s.flyer g).state = .faulted then
        { s.axis a with state := .ready, committed := none }
      else s.axis a := by
  have same : (clearAxes fs s).flyer g = s.flyer g := flyer_forEach_modAxis clearedAxis _ s g
  have cleared : (clearAxes fs s).axis a = clearedAxis (s.axis a) :=
    axis_forEach_modAxis_of_mem clearedAxis (nodup_flatMap_membersOf apart nodup)
      (List.mem_flatMap.mpr ⟨g, mem, member⟩) s
  have still : a ∈ membersOf (clearAxes fs s) g := (clearAxes_changesOnly fs s).membersOf g ▸ member
  rw [(clearFaults_restores apart nodup mem clears).axes a still, same, cleared, disengageAxis_clearedAxis]

end

/-! ## The checks of CLEAR_FAULT (R170) -/

theorem motionGrant_eq_false_iff : motionGrant q f s = false ↔ (s.grant f).owner ≠ some q.st := decide_eq_false_iff_not

theorem clearable_of_clears {st : FlyerState} (clears : Clears st) : clearable st = none := by
  rcases clears with rfl | rfl <;> rfl

theorem clearable_of_not_clears {st : FlyerState} (other : ¬Clears st) : clearable st = some .busy := by
  cases st with
  | faulted => exact absurd (Or.inl rfl) other
  | unready => exact absurd (Or.inr rfl) other
  | _ => rfl

theorem firstRefused_eq_none {test : FlyerState → Option ResultCode}
    (passes : ∀ g ∈ fs, test (s.flyer g).state = none) : firstRefused test s fs = none := by
  induction fs with
  | nil => rfl
  | cons f fs ih =>
    obtain ⟨now, later⟩ := List.forall_mem_cons.mp passes
    simp only [firstRefused, now, ih later]

theorem firstRefused_append {test : FlyerState → Option ResultCode} {before after : List FlyerId} {r : ResultCode}
    (passes : ∀ h ∈ before, test (s.flyer h).state = none) (fails : test (s.flyer g).state = some r) :
    firstRefused test s (before ++ g :: after) = some (g, r) := by
  induction before with
  | nil => simp only [List.nil_append, firstRefused, fails]
  | cons h before ih =>
    obtain ⟨now, later⟩ := List.forall_mem_cons.mp passes
    simp only [List.cons_append, firstRefused, now, ih later]

/-- A member that holds CLEAR_FAULT up: FAULTED, with its condition not gone (R29, R170). -/
def Stays (s : State) (a : AxisId) : Prop := (s.axis a).state = .faulted ∧ faultGone s a = false

theorem firstUncleared_eq_none (gone : ∀ g ∈ fs, ∀ a ∈ membersOf s g, ¬Stays s a) : firstUncleared s fs = none := by
  rw [firstUncleared, List.find?_eq_none]
  intro a mem
  obtain ⟨g, concerned, member⟩ := List.mem_flatMap.mp mem
  simpa [Stays] using gone g concerned a member

theorem firstUncleared_of_append {before after : List AxisId} (order : fs.flatMap (membersOf s) = before ++ a :: after)
    (gone : ∀ b ∈ before, ¬Stays s b) (stays : Stays s a) : firstUncleared s fs = some a := by
  rw [firstUncleared, List.find?_eq_some_iff_append]
  refine ⟨?_, before, after, order, fun b earlier => ?_⟩
  · simpa [Stays] using stays
  · simpa [Stays, imp_iff_not_or] using gone b earlier

/-- What CLEAR_FAULT does after its checks of the grant, of all-stop and of the role: the states and the axes of the
flyers concerned, and then its effect (R170). -/
def clearConcerned (fs : List FlyerId) (s : State) : State × Reply :=
  match firstRefused clearable s fs with
  | some e => refuse e.2 [⟨.flyer, e.1.val⟩] s
  | none =>
    match firstUncleared s fs with
    | some a => refuse .notReady [⟨.axis, a.val⟩] s
    | none => done (clearFaults fs s)

theorem clearConcerned_of_state {before after : List FlyerId} (passes : ∀ h ∈ before, Clears (s.flyer h).state)
    (fails : ¬Clears (s.flyer g).state) :
    clearConcerned (before ++ g :: after) s = refuse .busy [⟨.flyer, g.val⟩] s := by
  rw [clearConcerned, firstRefused_append (fun h earlier => clearable_of_clears (passes h earlier))
    (clearable_of_not_clears fails)]

theorem clearConcerned_of_axis (clears : ∀ g ∈ fs, Clears (s.flyer g).state)
    (stays : firstUncleared s fs = some a) : clearConcerned fs s = refuse .notReady [⟨.axis, a.val⟩] s := by
  rw [clearConcerned, firstRefused_eq_none fun g mem => clearable_of_clears (clears g mem), stays]

theorem clearConcerned_done (clears : ∀ g ∈ fs, Clears (s.flyer g).state) (gone : firstUncleared s fs = none) :
    clearConcerned fs s = done (clearFaults fs s) := by
  rw [clearConcerned, firstRefused_eq_none fun g mem => clearable_of_clears (clears g mem), gone]

theorem exec_clearFault (q : Req) (n : Nat) (s : State) :
    exec (.clearFault q n) s = takeRequest q 0x53 (clearFaultBody q n) s := rfl

theorem clearFaultBody_of_le {n : Nat} (outside : 4 ≤ n) : clearFaultBody q n s = refuse .badValue [] s := by
  rw [clearFaultBody, flyerNamed_of_le outside]

/-- The rows of R170 for a flyer that there is. -/
theorem clearFaultBody_val (q : Req) (f : FlyerId) (s : State) :
    clearFaultBody q f.val s =
      if (s.flyer f).state = .undefined then refuse .notReady [] s
      else if (s.grant f).owner ≠ some q.st then refuse .notOwner [] s
      else if s.allStop ≠ none then refuse .allStop [] s
      else if isFollower s f = true then refuse .busy [] s
      else clearConcerned (concernedFlyers s f) s := by
  simp only [clearFaultBody, flyerNamed_val, motionGrant_eq_false_iff, Option.isSome_iff_ne_none]
  rfl

/-! ## CLEAR_AXIS (R171) -/

theorem axisNamed_of_le {n : Nat} (outside : 12 ≤ n) : axisNamed n = none := dif_neg outside.not_gt

@[simp] theorem axisNamed_val (a : AxisId) : axisNamed a.val = some a := dif_pos a.isLt

theorem isSome_flyerOfAxis_iff : (flyerOfAxis s a).isSome = true ↔ ∃ f, a ∈ membersOf s f := by
  simp [flyerOfAxis, mem_allFlyers]

theorem modAxis_clearedAxis_of_faulted (faulted : (s.axis a).state = .faulted) :
    modAxis a clearedAxis s = s.setAxis a { s.axis a with state := .ready, cause := none, slack := 0 } := by
  rw [modAxis, clearedAxis, if_pos faulted]

theorem exec_clearAxis (q : Req) (n : Nat) (s : State) :
    exec (.clearAxis q n) s = takeRequest q 0x54 (clearAxisBody n) s := rfl

theorem clearAxisBody_of_le {n : Nat} (outside : 12 ≤ n) : clearAxisBody n s = refuse .badValue [] s := by
  rw [clearAxisBody, axisNamed_of_le outside]

/-- The rows of R171 for an axis that there is. -/
theorem clearAxisBody_val (a : AxisId) (s : State) :
    clearAxisBody a.val s =
      if ∃ f, a ∈ membersOf s f then refuse .busy [] s
      else if s.allStop ≠ none then refuse .allStop [] s
      else if (s.axis a).state ≠ .faulted then done s
      else if faultGone s a = false then refuse .notReady [⟨.axis, a.val⟩] s
      else done (modAxis a clearedAxis s) := by
  simp only [clearAxisBody, axisNamed_val, isSome_flyerOfAxis_iff]
  simp only [Option.isSome_iff_ne_none]

/-! ## The obligation -/

/-- Settles O39: each check of R170 and each row of R171 in turn, answered as a request that is taken; the effect of
CLEAR_FAULT is that of `clearFaults` on every flyer concerned. -/
theorem clearFaultAndClearAxisActInOrder : Obligations.ClearFaultAndClearAxisActInOrder := by
  unfold Obligations.ClearFaultAndClearAxisActInOrder
  refine ⟨fun q f s taken => ?clearFault, fun q a s taken => ?clearAxis⟩
  case clearFault =>
    intro u c fs clears
    have rows := clearFaultBody_val q f u
    have meaning : exec c s = takeRequest q 0x53 (clearFaultBody q f.val) s := exec_clearFault q f.val s
    refine ⟨fun n outside => taken.refused (exec_clearFault q n s) (clearFaultBody_of_le outside), ?_⟩
    split_ifs at rows ⊢ with undefined foreign stopped follows
    · exact taken.refused meaning rows
    · exact taken.refused meaning rows
    · exact taken.refused meaning rows
    · exact taken.refused meaning rows
    · refine ⟨fun g before after order passes fails => ?state, fun taking =>
        ⟨fun a before after order gone stays => ?axis, fun gone sound apart => ?effect⟩⟩
      case state =>
        refine taken.refused meaning (rows.trans ?_)
        rw [show concernedFlyers u f = before ++ g :: after from order]
        exact clearConcerned_of_state passes fails
      case axis =>
        exact taken.refused meaning
          (rows.trans (clearConcerned_of_axis taking (firstUncleared_of_append order gone stays)))
      case effect =>
        have nodup : fs.Nodup := nodup_concernedFlyers sound f
        have only : ChangesOnly fs u (clearFaults fs u) := clearFaults_changesOnly fs u
        have row := rows.trans (clearConcerned_done taking (firstUncleared_eq_none gone))
        obtain ⟨A, F, shape⟩ := only.frame
        refine ⟨A, F, ?_⟩
        rw [← shape]
        exact ⟨taken.completed meaning row, only.flyers,
          fun g mem => flyer_clearFaults apart nodup mem (taking g mem), only.axes,
          fun g mem a member => axis_clearFaults apart nodup mem (taking g mem) member⟩
  case clearAxis =>
    intro u c
    have rows := clearAxisBody_val a u
    have meaning : exec c s = takeRequest q 0x54 (clearAxisBody a.val) s := exec_clearAxis q a.val s
    refine ⟨fun n outside => taken.refused (exec_clearAxis q n s) (clearAxisBody_of_le outside), ?_⟩
    split_ifs at rows ⊢ with member stopped notFaulted stays
    · exact taken.refused meaning rows
    · exact taken.refused meaning rows
    · exact taken.completed meaning rows
    · exact taken.refused meaning rows
    · rw [modAxis_clearedAxis_of_faulted (not_not.mp notFaulted)] at rows
      exact taken.completed meaning rows

end Sys2Proof.Machine
end

section
/-! CLAIM_FLYER and RELEASE_FLYER by their rows (R183, R184): the grants of every flyer concerned change as one. -/

namespace Sys2Proof.Machine

variable {q : Req} {s : State} {fs : List FlyerId} {f g : FlyerId} {x : Grant} {n : Nat}

/-! ## The grants of a list of flyers -/

theorem setGrants_cons (f : FlyerId) (fs : List FlyerId) (x : Grant) (s : State) :
    setGrants (f :: fs) x s = setGrants fs x (s.setGrant f x) := rfl

theorem setGrants_frame (fs : List FlyerId) (x : Grant) (s : State) :
    ∃ G, setGrants fs x s = { s with grants := G } := by
  induction fs generalizing s with
  | nil => exact ⟨s.grants, rfl⟩
  | cons f fs ih =>
    obtain ⟨G, rest⟩ := ih (s.setGrant f x)
    exact ⟨G, rest⟩

/-- A flyer of the list has the entry that the list took, whether or not it is named again, and every other its own. -/
theorem grant_setGrants (fs : List FlyerId) (x : Grant) (s : State) (g : FlyerId) :
    (setGrants fs x s).grant g = if g ∈ fs then x else s.grant g := by
  induction fs generalizing s with
  | nil => rfl
  | cons f fs ih =>
    rw [setGrants_cons, ih]
    by_cases later : g ∈ fs
    · rw [if_pos later, if_pos (List.mem_cons_of_mem f later)]
    · simp only [later, if_false, State.grant_setGrant, List.mem_cons, or_false, eq_comm]

/-- A request whose row sets the grants of a list is completed, and changes those grants only. -/
theorem Taken.completed_setGrants {c : Instr} {code : Nat} {body : State → State × Reply} (taken : Taken q s)
    (meaning : exec c s = takeRequest q code body s)
    (row : body (arrived q s) = done (setGrants fs x (arrived q s))) :
    ∃ G, let v : State := { arrived q s with grants := G }
      Completed c q code s v ∧ ∀ g, v.grant g = if g ∈ fs then x else (arrived q s).grant g := by
  obtain ⟨G, shape⟩ := setGrants_frame fs x (arrived q s)
  refine ⟨G, ?_⟩
  rw [← shape]
  exact ⟨taken.completed meaning row, grant_setGrants fs x (arrived q s)⟩

/-! ## CLAIM_FLYER (R183) -/

theorem exec_claimFlyer (q : Req) (n : Nat) (s : State) :
    exec (.claimFlyer q n) s = takeRequest q 0x10 (claimBody q n) s := rfl

theorem editGrant_eq_true_iff : editGrant q f s = true ↔ (s.grant f).owner = none ∨ (s.grant f).owner = some q.st := by
  simp [editGrant]

/-- The rows of R183 for a flyer that there is. -/
theorem claimBody_val (q : Req) (f : FlyerId) (s : State) :
    claimBody q f.val s =
      if ∀ g ∈ concernedFlyers s f, (s.grant g).owner = none ∨ (s.grant g).owner = some q.st then
        done (setGrants (concernedFlyers s f) { owner := some q.st, mark := false } s)
      else refuse .owned [] s := by
  simp only [claimBody, flyerNamed_val, List.all_eq_true, editGrant_eq_true_iff]

theorem claimBody_owned
    (foreign : ∃ g ∈ concernedFlyers s f, (s.grant g).owner ≠ none ∧ (s.grant g).owner ≠ some q.st) :
    claimBody q f.val s = refuse .owned [] s := by
  obtain ⟨g, mem, owned, other⟩ := foreign
  rw [claimBody_val, if_neg fun free => (free g mem).elim owned other]

/-! ## RELEASE_FLYER (R184) -/

theorem exec_releaseFlyer (q : Req) (n : Nat) (s : State) :
    exec (.releaseFlyer q n) s = takeRequest q 0x11 (releaseBody q n) s := rfl

theorem releasable_eq_busy {st : FlyerState} (moving : releasable st ≠ none) : releasable st = some .busy := by
  cases st with
  | undefined | unready | unlocated | parked | held | faulted => exact absurd rfl moving
  | releasing | cueRun | holding | jogging | stopping => rfl

theorem releaseBody_of_le (outside : 4 ≤ n) : releaseBody q n s = refuse .badValue [] s := by
  rw [releaseBody, flyerNamed_of_le outside]

theorem releaseBody_notOwner (foreign : (s.grant f).owner ≠ some q.st) :
    releaseBody q f.val s = refuse .notOwner [] s := by
  simp only [releaseBody, flyerNamed_val, if_pos (motionGrant_eq_false_iff.mpr foreign)]

section
variable (owned : (s.grant f).owner = some q.st)
include owned

theorem not_motionGrant_eq_false : ¬motionGrant q f s = false := fun foreign => motionGrant_eq_false_iff.mp foreign owned

theorem releaseBody_busy {before after : List FlyerId} (order : concernedFlyers s f = before ++ g :: after)
    (passes : ∀ h ∈ before, releasable (s.flyer h).state = none) (moving : releasable (s.flyer g).state ≠ none) :
    releaseBody q f.val s = refuse .busy [⟨.flyer, g.val⟩] s := by
  have first : firstRefused releasable s (concernedFlyers s f) = some (g, .busy) := by
    rw [order, firstRefused_append passes (releasable_eq_busy moving)]
  simp only [releaseBody, flyerNamed_val, if_neg (not_motionGrant_eq_false owned), first]

theorem releaseBody_done (passes : ∀ g ∈ concernedFlyers s f, releasable (s.flyer g).state = none) :
    releaseBody q f.val s = done (setGrants (concernedFlyers s f) Grant.initial s) := by
  simp only [releaseBody, flyerNamed_val, if_neg (not_motionGrant_eq_false owned), firstRefused_eq_none passes]

end

/-! ## The obligation -/

/-- Settles O14: each row of R183 and R184 in turn, answered as a request that is taken; the row that is DONE sets the
grants of the flyers concerned with `setGrants`. -/
theorem claimAndReleaseActOnEveryFlyerConcerned : Obligations.ClaimAndReleaseActOnEveryFlyerConcerned := by
  unfold Obligations.ClaimAndReleaseActOnEveryFlyerConcerned
  intro q f s taken u
  have claims := exec_claimFlyer q f.val s
  have releases := exec_releaseFlyer q f.val s
  refine ⟨fun foreign => ?owned, fun free => ?claimed, fun n outside => ?badValue, fun foreign => ?notOwner,
    fun owned => ⟨fun g before after order passes moving => ?busy, fun passes => ?released⟩⟩
  case owned => exact taken.refused claims (claimBody_owned foreign)
  case claimed => exact taken.completed_setGrants claims ((claimBody_val q f u).trans (if_pos free))
  case badValue => exact taken.refused (exec_releaseFlyer q n s) (releaseBody_of_le outside)
  case notOwner => exact taken.refused releases (releaseBody_notOwner foreign)
  case busy => exact taken.refused releases (releaseBody_busy owned order passes moving)
  case released => exact taken.completed_setGrants releases (releaseBody_done owned passes)

end Sys2Proof.Machine
end

section
/-! What the operations of the rig and the log leave of the flyers and of the axes: the reach sets of the runs (R77),
the constants and the first fault cause of a flyer (R11, R157), and the measured part of an axis. -/

namespace Sys2Proof.Machine

variable {s t u : State}

/-! ## Gentle changes -/

/-- The reach set of a flyer's run, empty where it has none (R77). -/
def Flyer.reach (x : Flyer) : List Nat := (x.run.map Run.reach).getD []

/-- A change of a flyer record that keeps its definition and constants, adds no cue to its reach set, and keeps a fault
cause that stands (R157). -/
structure Flyer.Mild (x y : Flyer) : Prop where
  defn : y.defn = x.defn
  rig : y.rig = x.rig
  reach : y.reach ⊆ x.reach
  cause : ∀ c, x.cause = some c → y.cause = some c

theorem Flyer.Mild.refl (x : Flyer) : x.Mild x := ⟨rfl, rfl, fun _ => id, fun _ => id⟩

theorem Flyer.Mild.trans {x y z : Flyer} (h : x.Mild y) (k : y.Mild z) : x.Mild z :=
  ⟨k.defn.trans h.defn, k.rig.trans h.rig, fun _ m => h.reach (k.reach m), fun c e => k.cause c (h.cause c e)⟩

/-- A change of an axis record that keeps what only SET_AXIS, the feedback and the sends write. -/
structure Axis.Mild (x y : Axis) : Prop where
  params : y.params = x.params
  feedback : y.feedback = x.feedback
  current : y.current = x.current
  previous : y.previous = x.previous

theorem Axis.Mild.refl (x : Axis) : x.Mild x := ⟨rfl, rfl, rfl, rfl⟩

theorem Axis.Mild.trans {x y z : Axis} (h : x.Mild y) (k : y.Mild z) : x.Mild z :=
  ⟨k.params.trans h.params, k.feedback.trans h.feedback, k.current.trans h.current, k.previous.trans h.previous⟩

/-- A tame operation that changes every flyer and every axis mildly. -/
structure Gentle (s t : State) : Prop where
  tame : Tame s t
  flyers : ∀ f, (s.flyer f).Mild (t.flyer f)
  axes : ∀ a, (s.axis a).Mild (t.axis a)

theorem Gentle.refl (s : State) : Gentle s s := ⟨Tame.refl s, fun _ => .refl _, fun _ => .refl _⟩

theorem Gentle.trans (h : Gentle s t) (k : Gentle t u) : Gentle s u :=
  ⟨h.tame.trans k.tame, fun f => (h.flyers f).trans (k.flyers f), fun a => (h.axes a).trans (k.axes a)⟩

theorem Gentle.forEach {α : Type} {g : α → State → State} (h : ∀ x s, Gentle s (g x s)) (l : List α) (s : State) :
    Gentle s (forEach l g s) :=
  forEach_rel Gentle Gentle.refl (fun _ _ _ => Gentle.trans) g l (fun x _ => h x) s

theorem Gentle.ite {c : Prop} [Decidable c] (h : Gentle s t) (k : Gentle s u) : Gentle s (if c then t else u) := by
  split <;> assumption

/-! ## One record -/

theorem modAxis_gentle (a : AxisId) {g : Axis → Axis} (h : ∀ x : Axis, x.Mild (g x)) (s : State) : Gentle s (modAxis a g s) where
  tame := modAxis_tame a g s
  flyers _ := .refl _
  axes b := by
    rw [axis_modAxis]
    split
    · exact h _
    · exact .refl _

theorem modFlyer_gentle (f : FlyerId) {g : Flyer → Flyer} (h : ∀ x : Flyer, x.Mild (g x)) (s : State) :
    Gentle s (modFlyer f g s) where
  tame := modFlyer_tame f g (fun x => (h x).defn) s
  axes _ := .refl _
  flyers k := by
    rw [flyer_modFlyer]
    split
    · exact h _
    · exact .refl _

theorem logCause_gentle (c : Cause) (cls : FaultClass) (f : Option FlyerId) (s : State) : Gentle s (logCause c cls f s) :=
  ⟨logCause_tame c cls f s, fun _ => .refl _, fun _ => .refl _⟩

/-- A flyer that keeps its run. -/
theorem Flyer.Mild.of_run {x y : Flyer} (defn : y.defn = x.defn) (rig : y.rig = x.rig) (run : y.run = x.run)
    (cause : ∀ c, x.cause = some c → y.cause = some c) : x.Mild y :=
  ⟨defn, rig, by rw [Flyer.reach, run]; exact fun _ => id, cause⟩

/-- A flyer that loses its run. -/
theorem Flyer.Mild.of_run_none {x y : Flyer} (defn : y.defn = x.defn) (rig : y.rig = x.rig) (run : y.run = none)
    (cause : ∀ c, x.cause = some c → y.cause = some c) : x.Mild y :=
  ⟨defn, rig, by rw [Flyer.reach, run]; exact List.nil_subset _, cause⟩

theorem firstCause_of_some {x : Flyer} {c d : Cause} (h : x.cause = some d) : firstCause x c = some d := by
  rw [firstCause, h]

theorem modRun_gentle (f : FlyerId) {g : Run → Run} (h : ∀ r, (g r).reach = r.reach) (s : State) :
    Gentle s (modRun f g s) := by
  refine modFlyer_gentle f (g := fun x => { x with run := x.run.map g }) (fun x => ⟨rfl, rfl, ?_, fun _ => id⟩) s
  cases run : x.run <;> simp [Flyer.reach, run, h]

/-! ## States and engagement -/

theorem setStates_gentle (fs : List FlyerId) (st : FlyerState) (s : State) : Gentle s (setStates fs st s) :=
  Gentle.forEach (fun g => modFlyer_gentle g (by exact fun _ => .of_run rfl rfl rfl fun _ => id)) fs s

theorem disengageAxis_mild (x : Axis) : x.Mild (disengageAxis x) := by
  unfold disengageAxis
  split
  · exact ⟨rfl, rfl, rfl, rfl⟩
  · exact .refl x

theorem disengage_gentle (f : FlyerId) (s : State) : Gentle s (disengage f s) :=
  Gentle.forEach (fun a => modAxis_gentle a disengageAxis_mild) _ s

theorem engage_gentle (f : FlyerId) (s : State) : Gentle s (engage f s) := by
  unfold engage
  split
  · exact Gentle.forEach (fun (l : AxisId × AxisParams × Int) => modAxis_gentle l.1 (by exact fun _ => ⟨rfl, rfl, rfl, rfl⟩)) _ s
  · exact Gentle.refl s

theorem leaveRun_gentle (f : FlyerId) (st : FlyerState) (s : State) : Gentle s (leaveRun f st s) :=
  Gentle.forEach (fun g s => (modFlyer_gentle g (by exact fun _ => .of_run_none rfl rfl rfl fun _ => id) s).trans
    (disengage_gentle g _)) _ s

theorem readiness_gentle (f : FlyerId) (s : State) : Gentle s (readiness f s) := by
  rw [readiness_eq]
  exact modFlyer_gentle f (by exact fun _ => .of_run rfl rfl rfl fun _ => id) s

/-! ## Faults and stops -/

theorem dropLocated_gentle (f : FlyerId) (s : State) : Gentle s (modFlyer f dropLocated s) :=
  modFlyer_gentle f (by exact fun _ => .of_run rfl rfl rfl fun _ => id) s

theorem faultAtRest_gentle (f : FlyerId) (c : Cause) (s : State) : Gentle s (faultAtRest f c s) :=
  (modFlyer_gentle f (by exact fun _ => .of_run_none rfl rfl rfl fun _ => firstCause_of_some) s).trans (disengage_gentle f _)

theorem deadStop_gentle (f : FlyerId) (c : Cause) (s : State) : Gentle s (deadStop f c s) :=
  modFlyer_gentle f (by exact fun _ => .of_run_none rfl rfl rfl fun _ => firstCause_of_some) s

theorem controlledStop_gentle (f : FlyerId) (c : Cause) (s : State) : Gentle s (controlledStop f c s) :=
  modFlyer_gentle f (by exact fun _ => .of_run rfl rfl rfl fun _ => firstCause_of_some) s

theorem hitFlyer_gentle (via : Bool) (cls : FaultClass) (clears : Bool) (c : Cause) (f : FlyerId) (s : State) :
    Gentle s (hitFlyer via cls clears c f s) := by
  have base : Gentle s (if clears = true then modFlyer f dropLocated s else s) :=
    (dropLocated_gentle f s).ite (Gentle.refl s)
  refine base.trans ?_
  unfold hitFlyer
  generalize (if clears = true then modFlyer f dropLocated s else s) = r
  have unready : Gentle r (readiness f (modFlyer f (fun x => { x with state := .unready }) r)) :=
    (modFlyer_gentle f (by exact fun _ => .of_run rfl rfl rfl fun _ => id) r).trans (readiness_gentle f _)
  have dead := deadStop_gentle f c r
  have rest := faultAtRest_gentle f c r
  have stops := controlledStop_gentle f c r
  dsimp only
  split
  case h_1 | h_2 => exact Gentle.refl r
  case h_3 | h_4 | h_5 => exact unready.ite rest
  case h_6 => exact rest
  case h_7 | h_8 | h_9 | h_10 => exact dead.ite stops
  case h_11 | h_12 => exact dead.ite (Gentle.refl r)
  case h_13 => exact dead.ite rest

theorem takeFault_gentle (via : Bool) (cls : FaultClass) (c : Cause) (f : FlyerId) (s : State) :
    Gentle s (takeFault via cls c f s) := by
  have hit (d : Cause) (g : FlyerId) (s : State) :
      Gentle s (hitFlyer via cls c.code.clearsLocated d g (logCause d cls (some g) s)) :=
    (logCause_gentle d cls (some g) s).trans (hitFlyer_gentle via cls _ d g _)
  unfold takeFault
  exact (hit c f s).ite ((hit c f s).trans (Gentle.forEach (hit _) _ _))

theorem axisFault_gentle (code : FaultCode) (d : Detail) (a : AxisId) (s : State) : Gentle s (axisFault code d a s) := by
  have faulted : Gentle s
      (modAxis a (fun x => { x with state := .faulted, cause := some code, slack := 0, committed := none }) s) :=
    modAxis_gentle a (by exact fun _ => ⟨rfl, rfl, rfl, rfl⟩) s
  unfold axisFault
  dsimp only
  split
  · exact logCause_gentle _ _ _ s
  · split
    · exact faulted.trans (logCause_gentle _ _ _ _)
    · exact faulted.trans (takeFault_gentle _ _ _ _ _)

theorem allStopFlyer_gentle (c : Cause) (f : FlyerId) (s : State) : Gentle s (allStopFlyer c f s) := by
  unfold allStopFlyer
  split
  case h_1 | h_2 => exact faultAtRest_gentle f c s
  case h_3 | h_4 | h_5 | h_6 => exact modFlyer_gentle f (by exact fun _ => .of_run rfl rfl rfl fun _ => firstCause_of_some) s
  all_goals exact Gentle.refl s

theorem releaseEnableOn_gentle (f : FlyerId) (s : State) : Gentle s (releaseEnableOn f s) := by
  unfold releaseEnableOn
  split
  case h_1 => exact leaveRun_gentle f _ s
  case h_2 | h_3 | h_4 => exact setStates_gentle _ _ s
  case h_5 => exact modRun_gentle f (by intro _; rfl) s
  all_goals exact Gentle.refl s

theorem enableRelease_gentle (st : Station) (s : State) : Gentle s (enableRelease st s) :=
  Gentle.forEach (fun f s => (releaseEnableOn_gentle f s).ite (Gentle.refl s)) _ s

/-! ## The interpreter and the release (R99, R100, R103, R122) -/

theorem takeMarkRun_mild (last : Option Nat) (k : Nat) (x : Flyer) : x.Mild (takeMarkRun last k x) :=
  .of_run rfl rfl rfl fun _ => id

theorem passMarks_gentle (fs : List FlyerId) (ms : List Nat) (s : State) : Gentle s (passMarks fs ms s) :=
  Gentle.forEach (fun g => modFlyer_gentle g (by exact fun _ => .of_run rfl rfl rfl fun _ => id)) fs s

theorem interpreterOutcome_gentle (f : FlyerId) (p : Vec3) (stop : InterpreterEnd) (s : State) :
    Gentle s (interpreterOutcome f p stop s) := by
  unfold interpreterOutcome
  cases stop with
  | move m cue record => exact (modRun_gentle f (by intro _; rfl) s).trans (setStates_gentle _ _ _)
  | wait => exact (modRun_gentle f (by intro _; rfl) s).trans (setStates_gentle _ _ _)
  | runEnd => exact leaveRun_gentle f _ s
  | unended => exact Gentle.refl s

theorem runInterpreter_gentle (f : FlyerId) (s : State) : Gentle s (runInterpreter f s) := by
  unfold runInterpreter
  split
  · exact ((Gentle.forEach (fun g => modFlyer_gentle g (takeMarkRun_mild _ _)) _ s).trans
      (modRun_gentle f (by intro _; rfl) _)).trans (interpreterOutcome_gentle f _ _ _)
  · exact Gentle.refl s

theorem handleArrival_gentle (f : FlyerId) (s : State) : Gentle s (handleArrival f s) := by
  unfold handleArrival
  split
  · exact Gentle.refl s
  · exact ((modRun_gentle f (by intro _; rfl) s).trans (setStates_gentle _ _ _)).ite (runInterpreter_gentle f s)

theorem holdOutcome_gentle (f : FlyerId) (s : State) : Gentle s (holdOutcome f s) := by
  unfold holdOutcome
  split
  · exact setStates_gentle _ _ s
  · exact Gentle.refl s

theorem endStop_gentle (f : FlyerId) (why : StopReason) (s : State) : Gentle s (endStop f why s) := by
  cases why <;> exact leaveRun_gentle f _ s

theorem completeRelease_gentle (f : FlyerId) (s : State) : Gentle s (completeRelease f s) := by
  unfold completeRelease
  dsimp only
  split
  · exact ((modRun_gentle f (by intro _; rfl) s).trans (setStates_gentle _ _ _)).trans (runInterpreter_gentle f _)
  · exact (modRun_gentle f (by intro _; rfl) s).trans (setStates_gentle _ _ _)
  · exact Gentle.refl s

theorem testRelease_gentle (f : FlyerId) (s : State) : Gentle s (testRelease f s) :=
  (completeRelease_gentle f s).ite (Gentle.refl s)

/-! ## Supervision (R143 to R147) -/

theorem superviseSound_gentle (a : AxisId) (fb : Feedback) (s : State) : Gentle s (superviseSound a fb s) := by
  unfold superviseSound
  dsimp only
  split
  · exact axisFault_gentle _ _ a s
  · exact ((axisFault_gentle _ _ a s).ite (modAxis_gentle a (by exact fun _ => ⟨rfl, rfl, rfl, rfl⟩) s)).ite
      ((modAxis_gentle a (by exact fun _ => ⟨rfl, rfl, rfl, rfl⟩) s).ite (Gentle.refl s))

theorem superviseFaulted_gentle (a : AxisId) (fb : Feedback) (prev : Option Feedback) (s : State) :
    Gentle s (superviseFaulted a fb prev s) := by
  have fault (c : Prop) [Decidable c] (code : FaultCode) (d : Detail) (s : State) :
      Gentle s (if c then axisFault code d a s else s) := (axisFault_gentle code d a s).ite (Gentle.refl s)
  exact ((fault _ _ _ s).trans (fault _ _ _ _)).trans (fault _ _ _ _)

theorem warn_gentle (a : AxisId) (fb : Feedback) (prev : Option Feedback) (s : State) : Gentle s (warn a fb prev s) :=
  (logCause_gentle _ _ _ s).ite (Gentle.refl s)

theorem supervise_gentle (a : AxisId) (fb : Feedback) (prev : Option Feedback) (s : State) :
    Gentle s (supervise a fb prev s) := by
  unfold supervise
  split
  case h_1 => exact Gentle.refl s
  case h_2 => exact (superviseFaulted_gentle a fb prev s).trans (warn_gentle a fb prev _)
  all_goals exact (superviseSound_gentle a fb s).trans (warn_gentle a fb prev _)

theorem superviseSlot_gentle (a : Option AxisId) (fb : Feedback) (before s : State) :
    Gentle s (superviseSlot a fb before s) := by
  cases a with
  | none => exact Gentle.refl s
  | some a => exact supervise_gentle a fb _ s

theorem settlePort_gentle (p : PortId) (s : State) : Gentle s (settlePort p s) :=
  (Gentle.forEach readiness_gentle _ s).trans (Gentle.forEach testRelease_gentle _ _)

/-! ## The frame advance (R108 to R135) -/

theorem commitAxis_mild (p : AxisParams) (len : Int) (x : Axis) : x.Mild (commitAxis p len x) := by
  unfold commitAxis
  split
  · exact ⟨rfl, rfl, rfl, rfl⟩
  · exact .refl x

theorem commitPoints_gentle (pts : List (FlyerId × Vec3)) (governed atLimit : Bool) (s : State) :
    Gentle s (commitPoints pts governed atLimit s) :=
  (Gentle.forEach (fun (l : AxisId × AxisParams × Int) => modAxis_gentle l.1 (commitAxis_mild _ _)) _ s).trans
    (Gentle.forEach (fun (e : FlyerId × Vec3) => modFlyer_gentle e.1 (by exact fun _ => .of_run rfl rfl rfl fun _ => id)) _ _)

theorem commitPath_gentle (f : FlyerId) (old : Segment) (k : PathStep) (s : State) : Gentle s (commitPath f old k s) :=
  ((commitPoints_gentle _ _ _ s).trans (modRun_gentle f (by intro _; rfl) _)).trans (passMarks_gentle _ _ _)

theorem separationFault_gentle (bad : Option (FlyerId × FlyerId)) (f : FlyerId) (s : State) :
    Gentle s (separationFault bad f s) := by
  cases bad with
  | none => exact Gentle.refl s
  | some e => exact (takeFault_gentle _ _ _ _ s).ite (Gentle.refl s)

theorem arrivalOutcome_gentle (f : FlyerId) (s : State) : Gentle s (arrivalOutcome f s) := by
  unfold arrivalOutcome
  split
  · exact handleArrival_gentle f s
  · exact (handleArrival_gentle f s).trans (holdOutcome_gentle f _)
  · exact endStop_gentle f _ s
  all_goals exact Gentle.refl s

theorem restOutcome_gentle (found : FlyerState) (f : FlyerId) (s : State) : Gentle s (restOutcome found f s) := by
  unfold restOutcome
  split
  · exact Gentle.refl s
  · exact setStates_gentle _ _ s
  · exact endStop_gentle f _ s
  · exact Gentle.refl s

theorem finishPath_gentle (before : State) (f : FlyerId) (old : Segment) (k : PathStep) (s : State) :
    Gentle s (finishPath before f old k s) := by
  have faulted := (commitPath_gentle f old k s).trans
    (separationFault_gentle (separationFailure before (memberPoints (concerned s f) k.point)) f _)
  exact (faulted.trans (arrivalOutcome_gentle f _)).ite ((faulted.trans (restOutcome_gentle _ f _)).ite faulted)

theorem advanceOn_gentle (before : State) (f : FlyerId) (r : Run) (g : Segment) (here : Vec3) (s : State) :
    Gentle s (advanceOn before f r g here s) := by
  unfold advanceOn
  dsimp only
  split
  · exact takeFault_gentle _ _ _ _ s
  · exact finishPath_gentle before f g _ s

theorem advanceStill_gentle (before : State) (f : FlyerId) (here : Vec3) (s : State) :
    Gentle s (advanceStill before f here s) := by
  unfold advanceStill
  dsimp only
  split
  · exact takeFault_gentle _ _ _ _ s
  · exact (((commitPoints_gentle _ _ _ s).trans (modRun_gentle f (by intro _; rfl) _)).trans
      (separationFault_gentle _ f _)).trans (restOutcome_gentle _ f _)

theorem advancePath_gentle (before : State) (f : FlyerId) (s : State) : Gentle s (advancePath before f s) := by
  unfold advancePath
  split
  · split
    · exact advanceOn_gentle before f _ _ _ s
    · exact advanceStill_gentle before f _ s
  · exact Gentle.refl s

theorem jogRest_gentle (f : FlyerId) (j : JogStep) (s : State) : Gentle s (jogRest f j s) := by
  unfold jogRest
  split
  · exact (endStop_gentle f _ s).ite (Gentle.refl s)
  · exact Gentle.refl s

theorem advanceJog_gentle (before : State) (f : FlyerId) (s : State) : Gentle s (advanceJog before f s) := by
  unfold advanceJog
  split
  · exact ((commitPoints_gentle _ _ _ s).trans (modRun_gentle f (by intro _; rfl) _)).trans (jogRest_gentle f _ _)
  · exact Gentle.refl s

theorem Run.aged_reach (r : Run) : r.aged.reach = r.reach := by
  unfold Run.aged
  split <;> rfl

theorem ageJog_gentle (f : FlyerId) (s : State) : Gentle s (ageJog f s) := modRun_gentle f Run.aged_reach s

theorem brakeTimeoutOn_gentle (f : FlyerId) (s : State) : Gentle s (brakeTimeoutOn f s) := by
  unfold brakeTimeoutOn
  split
  · exact takeFault_gentle _ _ _ _ s
  · exact Gentle.refl s

theorem countBrake_gentle (f : FlyerId) (s : State) : Gentle s (countBrake f s) := by
  unfold countBrake
  split
  · exact Gentle.refl s
  · have counted : Gentle s (modRun f (fun x => { x with brake := x.brake - 1 }) s) :=
      modRun_gentle f (by intro _; rfl) s
    exact (counted.trans (brakeTimeoutOn_gentle f _)).ite counted

theorem countDwell_gentle (f : FlyerId) (s : State) : Gentle s (countDwell f s) := by
  unfold countDwell
  split
  · exact Gentle.refl s
  · have counted : Gentle s (modRun f (fun x => { x with dwell := x.dwell - 1 }) s) :=
      modRun_gentle f (by intro _; rfl) s
    exact (counted.trans (runInterpreter_gentle f _)).ite counted

theorem advanceFlyer_gentle (before : State) (f : FlyerId) (s : State) : Gentle s (advanceFlyer before f s) := by
  unfold advanceFlyer
  split
  case h_1 => exact (ageJog_gentle f s).trans (countBrake_gentle f _)
  case h_2 => exact countDwell_gentle f s
  case h_3 | h_4 => exact advancePath_gentle before f s
  case h_5 => exact (advanceJog_gentle before f s).ite (advancePath_gentle before f s)
  case h_6 => exact (advanceJog_gentle before f s).trans (ageJog_gentle f _)
  all_goals exact Gentle.refl s

theorem clearIndications_gentle (fs : List FlyerId) (s : State) :
    Gentle s (forEach fs (fun f => modFlyer f clearIndications) s) :=
  Gentle.forEach (fun f => modFlyer_gentle f (by exact fun _ => .of_run rfl rfl rfl fun _ => id)) fs s

theorem trajectoryFrame_gentle (s : State) : Gentle s (trajectoryFrame s) :=
  (clearIndications_gentle _ s).trans
    (Gentle.forEach (fun f t => (Gentle.refl t).ite (advanceFlyer_gentle _ f t)) _ _)

/-! ## The cut-off (R165) -/

theorem cutOffFlyer_gentle (speed : FlyerId → Int) (f : FlyerId) (s : State) : Gentle s (cutOffFlyer speed f s) :=
  (((logCause_gentle _ _ _ s).trans (modFlyer_gentle f (by exact fun _ => .of_run_none rfl rfl rfl fun _ => id) _)).trans
    (disengage_gentle f _)).ite (Gentle.refl s)

theorem cutOffExpiry_gentle (s : State) : Gentle s (cutOffExpiry s) := Gentle.forEach (cutOffFlyer_gentle _) _ s

end Sys2Proof.Machine
end

section
/-! The calm of all-stop (R163) through supervision, the frame advance and the cut-off: each of them moves a flyer on only
from a state that all-stop rules out. -/

namespace Sys2Proof.Machine

variable {s t u : State}

/-! ## Changes that keep the calm -/

theorem CalmKept.ite {c : Prop} [Decidable c] (h : CalmKept s t) (k : CalmKept s u) :
    CalmKept s (if c then t else u) := by
  split <;> assumption

/-- A flyer in a state that is not calm: nothing is claimed. -/
theorem CalmKept.of_not_calm {f : FlyerId} (h : (s.flyer f).state.calm = false) : CalmKept s t := fun k => by
  rw [k f] at h
  cases h

theorem modFlyer_calm_of_state (f : FlyerId) {g : Flyer → Flyer} (h : ∀ x, (g x).state = x.state) (s : State) :
    CalmKept s (modFlyer f g s) :=
  modFlyer_calm f g (fun x k => by rw [h]; exact k) s

theorem modRun_calm (f : FlyerId) (g : Run → Run) (s : State) : CalmKept s (modRun f g s) :=
  modFlyer_calm_of_state f (by intro _; rfl) s

theorem endStop_calm (f : FlyerId) (why : StopReason) (s : State) : CalmKept s (endStop f why s) := by
  cases why <;> exact leaveRun_calm f rfl s

/-! ## Supervision -/

theorem superviseSound_calm (a : AxisId) (fb : Feedback) (s : State) : CalmKept s (superviseSound a fb s) := by
  unfold superviseSound
  dsimp only
  split
  · exact axisFault_calm _ _ a s
  · exact ((axisFault_calm _ _ a s).ite (modAxis_calm a _ s)).ite ((modAxis_calm a _ s).ite (CalmKept.refl s))

theorem superviseFaulted_calm (a : AxisId) (fb : Feedback) (prev : Option Feedback) (s : State) :
    CalmKept s (superviseFaulted a fb prev s) := by
  have fault (c : Prop) [Decidable c] (code : FaultCode) (d : Detail) (s : State) :
      CalmKept s (if c then axisFault code d a s else s) := (axisFault_calm code d a s).ite (CalmKept.refl s)
  exact ((fault _ _ _ s).trans (fault _ _ _ _)).trans (fault _ _ _ _)

theorem warn_calm (a : AxisId) (fb : Feedback) (prev : Option Feedback) (s : State) : CalmKept s (warn a fb prev s) :=
  (logCause_calm _ _ _ s).ite (CalmKept.refl s)

theorem supervise_calm (a : AxisId) (fb : Feedback) (prev : Option Feedback) (s : State) :
    CalmKept s (supervise a fb prev s) := by
  unfold supervise
  split
  case h_1 => exact CalmKept.refl s
  case h_2 => exact (superviseFaulted_calm a fb prev s).trans (warn_calm a fb prev _)
  all_goals exact (superviseSound_calm a fb s).trans (warn_calm a fb prev _)

theorem superviseSlot_calm (a : Option AxisId) (fb : Feedback) (before s : State) :
    CalmKept s (superviseSlot a fb before s) := by
  cases a with
  | none => exact CalmKept.refl s
  | some a => exact supervise_calm a fb _ s

theorem testRelease_calm (f : FlyerId) (s : State) : CalmKept s (testRelease f s) := by
  unfold testRelease
  split
  · next h =>
    refine CalmKept.of_not_calm (f := f) ?_
    rw [h.1]
    rfl
  · exact CalmKept.refl s

theorem settlePort_calm (p : PortId) (s : State) : CalmKept s (settlePort p s) :=
  (CalmKept.forEach readiness_calm _ s).trans (CalmKept.forEach testRelease_calm _ _)

/-! ## The frame advance -/

theorem commitPoints_calm (pts : List (FlyerId × Vec3)) (governed atLimit : Bool) (s : State) :
    CalmKept s (commitPoints pts governed atLimit s) :=
  (CalmKept.forEach (fun _ => modAxis_calm _ _) _ s).trans
    (CalmKept.forEach (fun _ => modFlyer_calm_of_state _ (by intro _; rfl)) _ _)

theorem passMarks_calm (fs : List FlyerId) (ms : List Nat) (s : State) : CalmKept s (passMarks fs ms s) :=
  CalmKept.forEach (fun _ => modFlyer_calm_of_state _ (by intro _; rfl)) _ s

theorem commitPath_calm (f : FlyerId) (old : Segment) (k : PathStep) (s : State) : CalmKept s (commitPath f old k s) :=
  ((commitPoints_calm _ _ _ s).trans (modRun_calm f _ _)).trans (passMarks_calm _ _ _)

theorem separationFault_calm (bad : Option (FlyerId × FlyerId)) (f : FlyerId) (s : State) :
    CalmKept s (separationFault bad f s) := by
  cases bad with
  | none => exact CalmKept.refl s
  | some e => exact (takeFault_calm _ _ _ _ s).ite (CalmKept.refl s)

theorem arrivalOutcome_calm (f : FlyerId) (s : State) : CalmKept s (arrivalOutcome f s) := by
  unfold arrivalOutcome
  split
  case h_1 h => exact CalmKept.of_not_calm (f := f) (by rw [h]; rfl)
  case h_2 h => exact CalmKept.of_not_calm (f := f) (by rw [h]; rfl)
  case h_3 => exact endStop_calm f _ s
  all_goals exact CalmKept.refl s

theorem restOutcome_calm (found : FlyerState) (f : FlyerId) (s : State) : CalmKept s (restOutcome found f s) := by
  unfold restOutcome
  split
  case h_1 => exact CalmKept.refl s
  case h_2 _ h => exact CalmKept.of_not_calm (f := f) (by rw [h]; rfl)
  case h_3 => exact endStop_calm f _ s
  case h_4 => exact CalmKept.refl s

theorem finishPath_calm (before : State) (f : FlyerId) (old : Segment) (k : PathStep) (s : State) :
    CalmKept s (finishPath before f old k s) := by
  have faulted := (commitPath_calm f old k s).trans
    (separationFault_calm (separationFailure before (memberPoints (concerned s f) k.point)) f _)
  exact (faulted.trans (arrivalOutcome_calm f _)).ite ((faulted.trans (restOutcome_calm _ f _)).ite faulted)

theorem advanceOn_calm (before : State) (f : FlyerId) (r : Run) (g : Segment) (here : Vec3) (s : State) :
    CalmKept s (advanceOn before f r g here s) := by
  unfold advanceOn
  dsimp only
  split
  · exact takeFault_calm _ _ _ _ s
  · exact finishPath_calm before f g _ s

theorem advanceStill_calm (before : State) (f : FlyerId) (here : Vec3) (s : State) :
    CalmKept s (advanceStill before f here s) := by
  unfold advanceStill
  dsimp only
  split
  · exact takeFault_calm _ _ _ _ s
  · exact (((commitPoints_calm _ _ _ s).trans (modRun_calm f _ _)).trans
      (separationFault_calm _ f _)).trans (restOutcome_calm _ f _)

theorem advancePath_calm (before : State) (f : FlyerId) (s : State) : CalmKept s (advancePath before f s) := by
  unfold advancePath
  split
  · split
    · exact advanceOn_calm before f _ _ _ s
    · exact advanceStill_calm before f _ s
  · exact CalmKept.refl s

theorem jogRest_calm (f : FlyerId) (j : JogStep) (s : State) : CalmKept s (jogRest f j s) := by
  unfold jogRest
  split
  · exact (endStop_calm f _ s).ite (CalmKept.refl s)
  · exact CalmKept.refl s

theorem advanceJog_calm (before : State) (f : FlyerId) (s : State) : CalmKept s (advanceJog before f s) := by
  unfold advanceJog
  split
  · exact ((commitPoints_calm _ _ _ s).trans (modRun_calm f _ _)).trans (jogRest_calm f _ _)
  · exact CalmKept.refl s

theorem advanceFlyer_calm (before : State) (f : FlyerId) (s : State) : CalmKept s (advanceFlyer before f s) := by
  unfold advanceFlyer
  split
  case h_1 h => exact CalmKept.of_not_calm (f := f) (by rw [h]; rfl)
  case h_2 h => exact CalmKept.of_not_calm (f := f) (by rw [h]; rfl)
  case h_3 | h_4 => exact advancePath_calm before f s
  case h_5 => exact (advanceJog_calm before f s).ite (advancePath_calm before f s)
  case h_6 => exact (advanceJog_calm before f s).trans (modRun_calm f _ _)
  all_goals exact CalmKept.refl s

theorem trajectoryFrame_calm (s : State) : CalmKept s (trajectoryFrame s) :=
  (CalmKept.forEach (fun _ => modFlyer_calm_of_state _ (by intro _; rfl)) _ s).trans
    (CalmKept.forEach (fun f t => (CalmKept.refl t).ite (advanceFlyer_calm _ f t)) _ _)

/-! ## The cut-off -/

theorem cutOffFlyer_calm (speed : FlyerId → Int) (f : FlyerId) (s : State) : CalmKept s (cutOffFlyer speed f s) :=
  (((logCause_calm _ _ _ s).trans (modFlyer_calm f _ (by intro _ _; rfl) _)).trans
    (disengage_calm f _)).ite (CalmKept.refl s)

theorem cutOffExpiry_calm (s : State) : CalmKept s (cutOffExpiry s) := CalmKept.forEach (cutOffFlyer_calm _) _ s

/-! ## The activation of all-stop (R163) -/

/-- The activation of all-stop leaves the flyer it acts on calm. -/
theorem calm_allStopFlyer_self (c : Cause) (f : FlyerId) (s : State) :
    ((allStopFlyer c f s).flyer f).state.calm = true := by
  unfold allStopFlyer
  split
  case h_1 | h_2 => simp [faultAtRest, FlyerState.calm]
  case h_3 | h_4 | h_5 | h_6 => simp [FlyerState.calm]
  all_goals next h => simp [h, FlyerState.calm]

theorem allStopFlyer_calm (c : Cause) (f : FlyerId) (s : State) : CalmKept s (allStopFlyer c f s) := by
  unfold allStopFlyer
  split
  case h_1 | h_2 => exact faultAtRest_calm f c s
  case h_3 | h_4 | h_5 | h_6 => exact modFlyer_calm f _ (by intro _ _; rfl) s
  all_goals exact CalmKept.refl s

/-- The activation of all-stop on one flyer keeps every other flyer that is calm. -/
theorem calm_allStopFlyer (c : Cause) (f g : FlyerId) (s : State) (calm : (s.flyer g).state.calm = true) :
    ((allStopFlyer c f s).flyer g).state.calm = true := by
  rcases eq_or_ne f g with rfl | other
  · exact calm_allStopFlyer_self c f s
  · unfold allStopFlyer
    split <;> simpa [faultAtRest, other] using calm

theorem calm_forEach_allStopFlyer (c : Cause) (s : State) (f : FlyerId) :
    ((forEach allFlyers (allStopFlyer c) s).flyer f).state.calm = true :=
  forEach_brings (fun s => (s.flyer f).state.calm = true) (allStopFlyer c) (mem_allFlyers f)
    (calm_allStopFlyer_self c f) (fun g s calm => calm_allStopFlyer c g f s calm) s

end Sys2Proof.Machine
end

section
/-! What every change of the part keeps: the slots, the calm of all-stop, the bounded stores, the members and the reached
cues (R31, R43, R64, R65, R77, R136, R149, R151, R163, R172, R175). -/

namespace Sys2Proof.Machine

variable {s t u : State}

/-- Each of the invariants that stand beside `Settled` is kept from one state to the other, and the commands that wait
are left. -/
structure Keeps (s t : State) : Prop where
  slots : SlotsApart s → SlotsApart t
  calm : AllStopCalm s → AllStopCalm t
  stores : Bounded s ∧ StoreSound s → Bounded t ∧ StoreSound t
  apart : MembersApart s ∧ FormationsSound s → MembersApart t ∧ FormationsSound t
  reach : ReachPresent s → ReachPresent t
  pending : t.pending = s.pending

theorem Keeps.refl (s : State) : Keeps s s := ⟨id, id, id, id, id, rfl⟩

theorem Keeps.trans (h : Keeps s t) (k : Keeps t u) : Keeps s u :=
  ⟨k.slots ∘ h.slots, k.calm ∘ h.calm, k.stores ∘ h.stores, k.apart ∘ h.apart, k.reach ∘ h.reach,
    k.pending.trans h.pending⟩

theorem Keeps.forEach {α : Type} {g : α → State → State} (h : ∀ x s, Keeps s (g x s)) (l : List α) (s : State) :
    Keeps s (forEach l g s) :=
  forEach_rel Keeps Keeps.refl (fun _ _ _ => Keeps.trans) g l (fun x _ => h x) s

theorem Keeps.ite {c : Prop} [Decidable c] (h : Keeps s t) (k : Keeps s u) : Keeps s (if c then t else u) := by
  split <;> assumption

/-! ## What the invariants read -/

theorem inReach_iff {n : Nat} : inReach s n = true ↔ ∃ f, n ∈ (s.flyer f).reach := by
  simp only [inReach, List.any_eq_true, mem_allFlyers, true_and]
  refine exists_congr fun f => ?_
  cases run : (s.flyer f).run <;> simp [Flyer.reach, run]

theorem reachPresent_iff : ReachPresent s ↔ ∀ f, ∀ n ∈ (s.flyer f).reach, (cueOf s.dir n).isSome = true := by
  simp only [ReachPresent, inReach_iff, forall_exists_index]
  exact forall_comm

theorem slotsApart_of_tables
    (tables : ∀ p, (t.port p).active = (s.port p).active ∧ (t.port p).shadow = (s.port p).shadow) (h : SlotsApart s) :
    SlotsApart t := by
  simp only [SlotsApart, tables]
  exact h

theorem membersApart_of_defn (defn : ∀ f, (t.flyer f).defn = (s.flyer f).defn) (h : MembersApart s) : MembersApart t := by
  simp only [MembersApart, membersOf_of_defn (defn _)]
  exact h

theorem formationsSound_of_formations (formations : t.formations = s.formations) (h : FormationsSound s) :
    FormationsSound t := by
  unfold FormationsSound State.formation
  rw [formations]
  exact h

/-- A change of the axes, the flyers and the log that keeps the definitions and the bound of the log, moves no flyer on
under all-stop, and adds to a reach set only cues that are present. -/
theorem Keeps.of_tame (tame : Tame s t) (calm : s.allStop ≠ none → CalmKept s t)
    (reach : ∀ f, ∀ n ∈ (t.flyer f).reach, n ∈ (s.flyer f).reach ∨ (cueOf s.dir n).isSome = true) : Keeps s t := by
  have station := tame.station
  obtain ⟨-, ports, allStop, dir, stationA, stationB, formations, -, pending, -⟩ := tame.fields
  have port (p : PortId) : t.port p = s.port p := by rw [State.port, ports]; rfl
  constructor
  · exact slotsApart_of_tables fun p => by rw [port]; exact ⟨rfl, rfl⟩
  · intro h active
    rw [allStop] at active
    exact calm active (h active)
  · rintro ⟨⟨log, queues, misses⟩, sound⟩
    refine ⟨⟨tame.log log, ?_, ?_⟩, ?_⟩
    · simpa only [station] using queues
    · simpa only [port] using misses
    · unfold StoreSound placesUsed
      rw [dir, stationA, stationB]
      exact sound
  · exact fun ⟨members, sound⟩ => ⟨membersApart_of_defn tame.defn members, formationsSound_of_formations formations sound⟩
  · rw [reachPresent_iff, reachPresent_iff, dir]
    exact fun h f n mem => (reach f n mem).elim (h f n) id
  · exact pending

theorem Gentle.keeps (gentle : Gentle s t) (calm : CalmKept s t) : Keeps s t :=
  Keeps.of_tame gentle.tame (fun _ => calm) fun f _ mem => .inl ((gentle.flyers f).reach mem)

/-- A change of what no invariant reads. -/
theorem Keeps.of_unread (ports : t.ports = s.ports) (allStop : t.allStop = s.allStop) (flyers : t.flyers = s.flyers)
    (formations : t.formations = s.formations) (dir : t.dir = s.dir) (log : t.log = s.log)
    (stationA : t.stationA = s.stationA) (stationB : t.stationB = s.stationB) (pending : t.pending = s.pending) :
    Keeps s t := by
  have station (st : Station) : t.station st = s.station st := by cases st <;> assumption
  have port (p : PortId) : t.port p = s.port p := by rw [State.port, ports]; rfl
  have flyer (f : FlyerId) : t.flyer f = s.flyer f := by rw [State.flyer, flyers]; rfl
  constructor
  · exact slotsApart_of_tables fun p => by rw [port]; exact ⟨rfl, rfl⟩
  · simp only [AllStopCalm, allStop, flyer, imp_self]
  · simp only [Bounded, StoreSound, placesUsed, log, station, port, dir, stationA, stationB, imp_self]
  · exact fun ⟨members, sound⟩ =>
      ⟨membersApart_of_defn (fun f => by rw [flyer]) members, formationsSound_of_formations formations sound⟩
  · simp only [reachPresent_iff, dir, flyer, imp_self]
  · exact pending

/-! ## Drive ports -/

/-- A change of one drive port that keeps its tables, so far as they hold no axis twice, and the bound of its misses. -/
theorem Keeps.port (p : PortId) {g : Port → Port} (active : ∀ x, (g x).active = x.active)
    (shadow : ∀ x, x.shadow.doubled = false → (g x).shadow.doubled = false)
    (miss : ∀ x, x.miss ≤ 255 → (g x).miss ≤ 255) (s : State) : Keeps s (modPort p g s) where
  slots h := by
    have same (q : PortId) : ((modPort p g s).port q).active = (s.port q).active := by
      rw [port_modPort]
      split
      · exact active _
      · rfl
    simp only [SlotsApart, same]
    refine ⟨h.1, fun q => ⟨(h.2 q).1, ?_⟩⟩
    rw [port_modPort]
    split
    · exact shadow _ (h.2 q).2
    · exact (h.2 q).2
  calm := id
  stores h := by
    refine ⟨⟨h.1.1, h.1.2.1, fun q => ?_⟩, h.2⟩
    rw [port_modPort]
    split
    · exact miss _ (h.1.2.2 q)
    · exact h.1.2.2 q
  apart := id
  reach := id
  pending := rfl

/-! ## Station ports -/

/-- A station port changed, its upload kept. -/
theorem placesUsed_modStation (st : Station) {g : StationPort → StationPort} (h : ∀ x, (g x).upload = x.upload) (s : State) :
    placesUsed (modStation st g s) = placesUsed s := by
  cases st <;> simp only [placesUsed, modStation, State.setStation, h] <;> rfl

/-- A change of one station port that keeps its upload, and the bound of its queue. -/
theorem Keeps.station (st : Station) {g : StationPort → StationPort} (s : State)
    (upload : ∀ x, (g x).upload = x.upload)
    (queue : (s.station st).queue.length ≤ Config.queuePlaces → (g (s.station st)).queue.length ≤ Config.queuePlaces) :
    Keeps s (modStation st g s) where
  slots := by cases st <;> exact id
  calm := by cases st <;> exact id
  stores h := by
    refine ⟨⟨by cases st <;> exact h.1.1, fun o => ?_, by cases st <;> exact h.1.2.2⟩, ?_⟩
    · rw [station_modStation]
      split
      · next e => exact e ▸ queue (h.1.2.1 st)
      · exact h.1.2.1 o
    · rw [StoreSound, placesUsed_modStation st upload]
      cases st <;> exact h.2
  apart := by cases st <;> exact id
  reach := by cases st <;> exact id
  pending := by cases st <;> rfl

end Sys2Proof.Machine
end

section
/-! The stores that requests, swaps and the loading of an image change: uploads and the directory, slot tables,
definitions and formation records. -/

namespace Sys2Proof.Machine

variable {s t u : State}

/-- What the body of a request may do: it keeps every invariant, and leaves the responses that wait (R177). -/
structure Serves (s t : State) : Prop where
  keeps : Keeps s t
  queue : ∀ st, (t.station st).queue = (s.station st).queue

theorem Serves.refl (s : State) : Serves s s := ⟨Keeps.refl s, fun _ => rfl⟩

theorem Serves.trans (h : Serves s t) (k : Serves t u) : Serves s u :=
  ⟨h.keeps.trans k.keeps, fun st => (k.queue st).trans (h.queue st)⟩

theorem Serves.of_tame (tame : Tame s t) (keeps : Keeps s t) : Serves s t :=
  ⟨keeps, fun st => by rw [tame.station]⟩

theorem Serves.of_unread (ports : t.ports = s.ports) (allStop : t.allStop = s.allStop) (flyers : t.flyers = s.flyers)
    (formations : t.formations = s.formations) (dir : t.dir = s.dir) (log : t.log = s.log)
    (stationA : t.stationA = s.stationA) (stationB : t.stationB = s.stationB) (pending : t.pending = s.pending) :
    Serves s t :=
  ⟨Keeps.of_unread ports allStop flyers formations dir log stationA stationB pending,
    fun st => by cases st <;> simp only [State.station, stationA, stationB]⟩

theorem modAxis_keeps (a : AxisId) (g : Axis → Axis) (s : State) : Keeps s (modAxis a g s) :=
  Keeps.of_tame (modAxis_tame a g s) (fun _ => modAxis_calm a g s) fun _ _ => .inl

/-- A change of one flyer's record that keeps its definition and its calm, and adds no cue to its reach set. -/
theorem modFlyer_keeps (f : FlyerId) {g : Flyer → Flyer} (defn : ∀ x, (g x).defn = x.defn)
    (calm : ∀ x, x.state.calm = true → (g x).state.calm = true) (reach : ∀ x, (g x).reach = x.reach) (s : State) :
    Keeps s (modFlyer f g s) :=
  Keeps.of_tame (modFlyer_tame f g defn s) (fun _ => modFlyer_calm f g calm s) fun h n mem => by
    rw [flyer_modFlyer] at mem
    split at mem
    · exact .inl (reach _ ▸ mem)
    · exact .inl mem

/-! ## Uploads and the directory (R64, R65, R74) -/

theorem placesUsed_setUpload (st : Station) (u : Option Upload) (s : State) :
    placesUsed (setUpload st u s) + uploadLength (s.station st).upload = placesUsed s + uploadLength u := by
  cases st <;> simp only [placesUsed, setUpload, modStation, State.setStation, State.station] <;> omega

theorem poolFree_eq (s : State) : poolFree s = Config.poolPlaces - placesUsed s := by
  unfold poolFree placesUsed
  cases s.stationA.upload <;> cases s.stationB.upload <;> rfl

@[simp] theorem uploadLength_none : uploadLength none = 0 := rfl

@[simp] theorem uploadLength_some (u : Upload) : uploadLength (some u) = u.recs.length := rfl

@[simp] theorem dir_setUpload (st : Station) (u : Option Upload) (s : State) : (setUpload st u s).dir = s.dir := by
  cases st <;> rfl

@[simp] theorem station_setUpload_self (st : Station) (u : Option Upload) (s : State) :
    (setUpload st u s).station st = { s.station st with upload := u } := by
  rw [setUpload, station_modStation, if_pos rfl]

/-- An upload context set, where the pool has room for it. -/
theorem setUpload_serves (st : Station) (u : Option Upload) (s : State)
    (room : placesUsed s ≤ Config.poolPlaces → placesUsed (setUpload st u s) ≤ Config.poolPlaces) :
    Serves s (setUpload st u s) := by
  have queue (o : Station) : ((setUpload st u s).station o).queue = (s.station o).queue := by
    rw [setUpload, station_modStation]
    split <;> rfl
  refine ⟨⟨by cases st <;> exact id, by cases st <;> exact id, fun h => ⟨⟨by cases st <;> exact h.1.1, fun o => ?_,
    by cases st <;> exact h.1.2.2⟩, ?_⟩, by cases st <;> exact id, by cases st <;> exact id,
    by cases st <;> rfl⟩, queue⟩
  · rw [queue]
    exact h.1.2.1 o
  · rw [StoreSound, dir_setUpload]
    exact ⟨h.2.1, h.2.2.1, room h.2.2.2⟩

theorem rewind_serves (st : Station) (s : State) : Serves s (rewind st s) := by
  refine setUpload_serves st none s fun room => ?_
  have places := placesUsed_setUpload st none s
  simp only [uploadLength] at places
  omega

@[simp] theorem cueOf_nil (n : Nat) : cueOf [] n = none := rfl

theorem cueOf_cons (c : Cue) (l : List Cue) (n : Nat) : cueOf (c :: l) n = if c.num = n then some c else cueOf l n := by
  by_cases h : c.num = n <;> simp [cueOf, h]

theorem cueOf_isSome_iff {l : List Cue} {n : Nat} : (cueOf l n).isSome = true ↔ ∃ c ∈ l, c.num = n := by
  simp [cueOf]

/-- An installed cue is found under its number, and every other number as before. -/
theorem cueOf_installCue (c : Cue) (l : List Cue) (n : Nat) :
    cueOf (installCue c l) n = if c.num = n then some c else cueOf l n := by
  induction l with
  | nil => rw [installCue, cueOf_cons]
  | cons d l ih =>
    unfold installCue
    by_cases found : c.num = n
    · rw [if_pos found]
      split_ifs with before same
      · rw [cueOf_cons, if_pos found]
      · rw [cueOf_cons, if_pos found]
      · rw [cueOf_cons, ih, if_pos found, if_neg fun e => same (e.trans found.symm)]
    · rw [if_neg found]
      split_ifs with before same
      · rw [cueOf_cons, if_neg found]
      · rw [cueOf_cons, cueOf_cons, if_neg found, if_neg (same ▸ found)]
      · rw [cueOf_cons, cueOf_cons, ih, if_neg found]

theorem mem_installCue {c d : Cue} {l : List Cue} (mem : d ∈ installCue c l) : d = c ∨ d ∈ l := by
  induction l with
  | nil => exact .inl (List.mem_singleton.mp mem)
  | cons e l ih =>
    unfold installCue at mem
    split_ifs at mem
    · exact List.mem_cons.mp mem
    · exact (List.mem_cons.mp mem).imp_right (List.mem_cons_of_mem e)
    · rcases List.mem_cons.mp mem with rfl | later
      · exact .inr List.mem_cons_self
      · exact (ih later).imp_right (List.mem_cons_of_mem e)

theorem installCue_pairwise (c : Cue) {l : List Cue} (order : l.Pairwise fun a b => a.num < b.num) :
    (installCue c l).Pairwise fun a b => a.num < b.num := by
  induction l with
  | nil => exact List.pairwise_singleton ..
  | cons d l ih =>
    obtain ⟨least, rest⟩ := List.pairwise_cons.mp order
    unfold installCue
    split_ifs with before same
    · refine List.pairwise_cons.mpr ⟨fun e mem => ?_, order⟩
      rcases List.mem_cons.mp mem with rfl | later
      · exact before
      · exact before.trans (least e later)
    · exact List.pairwise_cons.mpr ⟨fun e mem => same ▸ least e mem, rest⟩
    · refine List.pairwise_cons.mpr ⟨fun e mem => ?_, ih rest⟩
      rcases mem_installCue mem with rfl | later
      · omega
      · exact least e later

/-- An installed cue takes the place of the one with its number, or one place more. -/
theorem installCue_length (c : Cue) {l : List Cue} (order : l.Pairwise fun a b => a.num < b.num) :
    (installCue c l).length = if (cueOf l c.num).isSome then l.length else l.length + 1 := by
  induction l with
  | nil => rfl
  | cons d l ih =>
    obtain ⟨least, rest⟩ := List.pairwise_cons.mp order
    have absent (below : c.num < d.num) : ¬(cueOf l c.num).isSome = true := fun found => by
      obtain ⟨e, mem, num⟩ := cueOf_isSome_iff.mp found
      have := least e mem
      omega
    unfold installCue
    rw [cueOf_cons]
    by_cases same : d.num = c.num
    · rw [if_neg (by omega), if_pos same, if_pos same]
      rfl
    · rw [if_neg same, if_neg same]
      by_cases before : c.num < d.num
      · rw [if_pos before, if_neg (absent before)]
        rfl
      · rw [if_neg before, List.length_cons, ih rest, List.length_cons]
        split <;> rfl

theorem installCue_sum_le (c : Cue) (l : List Cue) :
    ((installCue c l).map fun d => d.recs.length).sum ≤ (l.map fun d => d.recs.length).sum + c.recs.length := by
  induction l with
  | nil => simp [installCue]
  | cons d l ih =>
    unfold installCue
    split_ifs <;> simp only [List.map_cons, List.sum_cons] at * <;> omega

/-- A whole upload installed as its cue, where the directory has room for it (R73, R74). -/
theorem installed_serves {st : Station} {x : Upload} (c : Cue) (open_ : (s.station st).upload = some x)
    (recs : c.recs = x.recs) (room : (cueOf s.dir c.num).isSome = true ∨ s.dir.length < Config.directoryPlaces) :
    Serves s (setUpload st none { s with dir := installCue c s.dir }) := by
  let v : State := { s with dir := installCue c s.dir }
  have places := placesUsed_setUpload st none v
  have used : placesUsed s = (s.dir.map fun d => d.recs.length).sum + uploadLength s.stationA.upload +
    uploadLength s.stationB.upload := rfl
  have grown : placesUsed v = ((installCue c s.dir).map fun d => d.recs.length).sum +
    uploadLength s.stationA.upload + uploadLength s.stationB.upload := rfl
  have total := installCue_sum_le c s.dir
  have queue (o : Station) : ((setUpload st none v).station o).queue = (s.station o).queue := by
    rw [setUpload, station_modStation]
    split <;> cases o <;> rfl
  have same : v.station st = s.station st := by cases st <;> rfl
  rw [same, open_, uploadLength_some, uploadLength_none] at places
  refine ⟨⟨by cases st <;> exact id, by cases st <;> exact id, fun ⟨⟨log, queues, misses⟩, order, size, pool⟩ =>
    ⟨⟨by cases st <;> exact log, fun o => by rw [queue]; exact queues o, by cases st <;> exact misses⟩, ?_, ?_, ?_⟩,
    by cases st <;> exact id, fun present n reached => ?_, by cases st <;> rfl⟩, queue⟩
  · rw [dir_setUpload]
    exact installCue_pairwise c order
  · rw [dir_setUpload, installCue_length c order]
    split
    · exact size
    · next absent => exact room.resolve_left absent
  · rw [recs] at total
    change placesUsed (setUpload st none v) ≤ _
    omega
  · have before : inReach s n = true := by cases st <;> exact reached
    rw [dir_setUpload, cueOf_installCue]
    split
    · rfl
    · exact present n before

end Sys2Proof.Machine
end

section
/-! The rig table, the slots and the resets keep the invariants: a definition installed, a formation record replaced, a
swap taken, an image loaded (R31, R43, R151, R192, R195). -/

namespace Sys2Proof.Machine

variable {s t u : State} {f g : FlyerId} {n k : FormationId} {a : AxisId} {p : PortId}

theorem allDistinct_iff_nodup {α : Type} [DecidableEq α] {l : List α} : allDistinct l = true ↔ l.Nodup := by
  induction l with
  | nil => exact iff_of_true rfl List.nodup_nil
  | cons x l ih => simp [allDistinct, ih]

/-! ## Definitions (R31, R32) -/

/-- A definition's members, each once, none of them a member of another flyer. -/
structure FitsIn (s : State) (f : FlyerId) (d : FlyerDef) : Prop where
  nodup : d.members.Nodup
  free : ∀ g, g ≠ f → ∀ a ∈ d.members, a ∉ membersOf s g

theorem flyerDefOf_nodup {fields : FlyerFields} {d : FlyerDef} (h : flyerDefOf fields = some d) : d.members.Nodup := by
  unfold flyerDefOf at h
  split at h
  · cases h
  · next ms _ =>
    split at h
    · next range =>
      cases h
      simp only [Bool.and_eq_true] at range
      obtain ⟨⟨⟨⟨⟨⟨⟨⟨⟨⟨⟨_, _⟩, _⟩, distinct⟩, _⟩, _⟩, _⟩, _⟩, _⟩, _⟩, _⟩, _⟩ := range
      exact allDistinct_iff_nodup.mp distinct
    · cases h

theorem fitsIn_of_usable {d : FlyerDef} (nodup : d.members.Nodup) (usable : definitionUsable s f d = true) :
    FitsIn s f d := by
  refine ⟨nodup, fun g other a member => ?_⟩
  simp only [definitionUsable, Bool.and_eq_true, List.all_eq_true] at usable
  obtain ⟨⟨⟨_, free⟩, _⟩, _⟩ := usable
  simpa [other, mem_allFlyers] using free a member g (mem_allFlyers g)

/-- The member axes that a flyer's record lists, none without a definition. -/
def Flyer.members (x : Flyer) : List AxisId := (x.defn.map FlyerDef.members).getD []

theorem membersOf_eq (s : State) (f : FlyerId) : membersOf s f = (s.flyer f).members := by
  unfold membersOf Flyer.members
  cases (s.flyer f).defn <;> rfl

theorem membersOf_setFlyer (f g : FlyerId) (x : Flyer) (s : State) :
    membersOf (s.setFlyer f x) g = if f = g then x.members else membersOf s g := by
  rw [membersOf_eq, membersOf_eq, State.flyer_setFlyer]
  split <;> rfl

/-- A flyer's record replaced: its definition fits in, and neither its calm nor its reach set gives way. -/
theorem setFlyer_keeps (f : FlyerId) (x : Flyer) (s : State) (fits : ∀ d, x.defn = some d → FitsIn s f d)
    (calm : (s.flyer f).state.calm = true → x.state.calm = true) (reach : x.reach ⊆ (s.flyer f).reach) :
    Keeps s (s.setFlyer f x) where
  slots := id
  calm h active g := by
    rw [State.flyer_setFlyer]
    split
    · exact calm (h active f)
    · exact h active g
  stores := id
  apart := by
    rintro ⟨apart, sound⟩
    have free (a : AxisId) (mine : a ∈ x.members) (g : FlyerId) (other : g ≠ f) : a ∉ membersOf s g := by
      cases defn : x.defn with
      | none => simp [Flyer.members, defn] at mine
      | some d => exact (fits d defn).free g other a (by simpa [Flyer.members, defn] using mine)
    refine ⟨⟨fun g h a mine its => ?_, fun g => ?_⟩, sound⟩
    · rw [membersOf_setFlyer] at mine its
      split_ifs at mine its with hg hh hh
      · exact hg.symm.trans hh
      · exact absurd its (free a mine h (Ne.symm hh))
      · exact absurd mine (free a its g (Ne.symm hg))
      · exact apart.1 g h a mine its
    · rw [membersOf_setFlyer]
      split
      · cases defn : x.defn with
        | none => simp [Flyer.members, defn]
        | some d => simpa [Flyer.members, defn] using (fits d defn).nodup
      · exact apart.2 g
  reach h := by
    rw [reachPresent_iff] at h ⊢
    intro g n mem
    rw [State.flyer_setFlyer] at mem
    split at mem
    · exact h f n (reach mem)
    · exact h g n mem
  pending := rfl

theorem installDefinition_serves (f : FlyerId) (d : FlyerDef) (s : State) (fits : FitsIn s f d) :
    Serves s (installDefinition f d s) := by
  have parked (x : FlyerState) (h : x.calm = true) : (if x = .parked then FlyerState.unlocated else x).calm = true := by
    split
    · rfl
    · exact h
  refine ⟨?_, fun st => by rw [installDefinition, (readiness_tame f _).station, State.station_setFlyer]⟩
  unfold installDefinition
  refine Keeps.trans ?_ ((readiness_gentle f _).keeps (readiness_calm f _))
  cases defn : (s.flyer f).defn with
  | none => exact setFlyer_keeps f _ s (by rintro e ⟨⟩; exact fits) (fun _ => rfl) (List.nil_subset _)
  | some old =>
    dsimp only
    split
    · exact setFlyer_keeps f _ s (by rintro e ⟨⟩; exact fits) id fun _ => id
    · exact setFlyer_keeps f _ s (by rintro e ⟨⟩; exact fits) (parked _) fun _ => id

/-! ## Formation records (R43) -/

theorem mem_allFormations (n : FormationId) : n ∈ allFormations := by fin_cases n <;> decide

theorem names_iff {m : Formation} : m.names f = true ↔ f ∈ m.flyers.map fun e => e.1 := by
  simp [Formation.names]

theorem names_of_formationNaming {e : FormationId × Formation} (naming : formationNaming s f = some e) :
    e.2.names f = true := by
  obtain ⟨n, _, found⟩ := List.exists_of_findSome?_eq_some naming
  split at found
  · split_ifs at found with named
    cases found
    exact named
  · cases found

theorem formationNaming_eq_none_iff :
    formationNaming s f = none ↔ ∀ n m, s.formation n = some m → m.names f = false := by
  simp only [formationNaming, List.findSome?_eq_none_iff, mem_allFormations, true_imp_iff]
  refine forall_congr' fun n => ?_
  cases s.formation n <;> simp

/-- In a sound table the record that names a flyer is the one that is found. -/
theorem formationNaming_of_names {m : Formation} (sound : FormationsSound s) (stands : s.formation n = some m)
    (named : m.names f = true) : formationNaming s f = some (n, m) := by
  cases naming : formationNaming s f with
  | none =>
    rw [formationNaming_eq_none_iff.mp naming n m stands] at named
    cases named
  | some e =>
    have its := formation_of_formationNaming naming
    obtain rfl := sound.1 e.1 n e.2 m f its stands (names_of_formationNaming naming) named
    rw [its] at stands
    cases stands
    rfl

theorem formationOf_nodup {fields : FormationFields} {m : Formation} (h : formationOf fields = some m) :
    (m.flyers.map fun e => e.1).Nodup := by
  unfold formationOf at h
  split at h
  · split at h
    · next range =>
      cases h
      simp only [Bool.and_eq_true] at range
      obtain ⟨⟨_, distinct⟩, _⟩ := range
      exact allDistinct_iff_nodup.mp distinct
    · cases h
  · cases h

/-- The flyers of a usable record stand in no other record of a sound table (R43). -/
theorem names_eq_false_of_usable {m x : Formation} (sound : FormationsSound s) (usable : formationUsable s n m = true)
    (other : k ≠ n) (stands : s.formation k = some x) (named : m.names f = true) : x.names f = false := by
  rw [← Bool.not_eq_true]
  intro both
  obtain ⟨e, mem, rfl⟩ := List.mem_map.mp (names_iff.mp named)
  have free := List.all_eq_true.mp usable e mem
  rw [inOtherFormation, formationNaming_of_names sound stands both] at free
  simp [other] at free

theorem setFormation_keeps (n : FormationId) (x : Option Formation) (s : State)
    (nodup : ∀ m, x = some m → (m.flyers.map fun e => e.1).Nodup)
    (usable : ∀ m, x = some m → formationUsable s n m = true) : Keeps s (s.setFormation n x) where
  slots := id
  calm := id
  stores := id
  reach := id
  apart := by
    rintro ⟨apart, sound⟩
    refine ⟨apart, fun i j y z f hi hj iy jz => ?_, fun i y hi => ?_⟩
    · rw [State.formation_setFormation] at hi hj
      split_ifs at hi hj with ni nj nj
      · exact ni.symm.trans nj
      · rw [names_eq_false_of_usable sound (usable y hi) (Ne.symm nj) hj iy] at jz
        cases jz
      · rw [names_eq_false_of_usable sound (usable z hj) (Ne.symm ni) hi jz] at iy
        cases iy
      · exact sound.1 i j y z f hi hj iy jz
    · rw [State.formation_setFormation] at hi
      split at hi
      · exact nodup y hi
      · exact sound.2 i y hi
  pending := rfl

theorem setFormation_serves (n : FormationId) (x : Option Formation) (s : State)
    (nodup : ∀ m, x = some m → (m.flyers.map fun e => e.1).Nodup)
    (usable : ∀ m, x = some m → formationUsable s n m = true) : Serves s (s.setFormation n x) :=
  ⟨setFormation_keeps n x s nodup usable, fun st => by rw [State.station_setFormation]⟩

theorem dropLocated_calm (x : Flyer) (h : x.state.calm = true) :
    (if (dropLocated x).state = .parked then FlyerState.unlocated else (dropLocated x).state).calm = true := by
  split
  · rfl
  · exact h

theorem alignFollower_tame (l : FlyerId) (e : FlyerId × Vec3) (s : State) : Tame s (alignFollower l e s) :=
  Tame.ite (Tame.refl s) (modFlyer_tame _ _ (by intro _; rfl) s)

theorem alignFollower_keeps (l : FlyerId) (e : FlyerId × Vec3) (s : State) : Keeps s (alignFollower l e s) :=
  Keeps.ite (Keeps.refl s) (modFlyer_keeps e.1 (by intro _; rfl) dropLocated_calm (by intro _; rfl) s)

/-! ## Slot tables (R149, R151) -/

theorem has_iff {x : Slots} : x.has a = true ↔ x.slot0 = some a ∨ x.slot1 = some a := by
  simp [Slots.has]

theorem mem_allPorts (p : PortId) : p ∈ allPorts := by fin_cases p <;> decide

theorem otherPortOf_eq_none_iff : otherPortOf s p a = none ↔ ∀ g, g ≠ p → (s.port g).active.has a = false := by
  simp [otherPortOf, mem_allPorts]

theorem stagedElsewhere_eq_none_iff {x : Slots} :
    stagedElsewhere s p x = none ↔ ∀ a, x.has a = true → ∀ g, g ≠ p → (s.port g).active.has a = false := by
  have mem (a : AxisId) : a ∈ x.axes ↔ x.has a = true := by simp [Slots.axes, has_iff]
  simp only [stagedElsewhere, List.findSome?_eq_none_iff, mem, Option.map_eq_none_iff, otherPortOf_eq_none_iff]

/-- The active table of a port replaced by one that holds no axis twice and none of another port. -/
theorem setActive_keeps (p : PortId) {g : Port → Port} (s : State)
    (once : SlotsApart s → (g (s.port p)).active.doubled = false)
    (free : SlotsApart s → ∀ a, (g (s.port p)).active.has a = true → ∀ q, q ≠ p → (s.port q).active.has a = false)
    (shadow : ∀ x, (g x).shadow = x.shadow) (miss : ∀ x, (g x).miss = x.miss) : Keeps s (modPort p g s) where
  calm := id
  apart := id
  reach := id
  pending := rfl
  slots h := by
    refine ⟨fun i j a hi hj => ?_, fun q => ?_⟩
    · rw [port_modPort] at hi hj
      split_ifs at hi hj with pi pj pj
      · exact pi.symm.trans pj
      · subst pi
        rw [free h a hi j (Ne.symm pj)] at hj
        cases hj
      · subst pj
        rw [free h a hj i (Ne.symm pi)] at hi
        cases hi
      · exact h.1 i j a hi hj
    · rw [port_modPort]
      split
      · next e =>
        subst e
        rw [shadow]
        exact ⟨once h, (h.2 p).2⟩
      · exact h.2 q
  stores h := by
    refine ⟨⟨h.1.1, h.1.2.1, fun q => ?_⟩, h.2⟩
    rw [port_modPort]
    split
    · rw [miss]
      exact h.1.2.2 q
    · exact h.1.2.2 q

theorem slotsOf_doubled {i j : Nat} {x : Slots} (h : slotsOf i j = some x) : x.doubled = false := by
  unfold slotsOf at h
  split at h
  · split_ifs at h with doubled
    cases h
    exact Bool.eq_false_iff.mpr doubled
  · cases h

/-- A slot that drops no swap keeps its axis, or takes one that stands in no other active table (R151). -/
theorem slotDrop_eq_none {old new : Option AxisId} (h : slotDrop s p old new = none) :
    old = new ∨ ∀ a, new = some a → ∀ g, g ≠ p → (s.port g).active.has a = false := by
  unfold slotDrop at h
  dsimp only at h
  split at h
  · next same => exact .inl same
  · refine .inr fun a e => ?_
    subst e
    split at h
    · cases h
    · rw [Option.bind_some, Option.map_eq_none_iff, otherPortOf_eq_none_iff] at h
      exact h

/-- What an undropped swap places stands in no other active table. -/
theorem free_of_swapDrop_eq_none (apart : SlotsApart s) (h : swapDrop s p = none)
    (held : (s.port p).shadow.has a = true) : ∀ g, g ≠ p → (s.port g).active.has a = false := by
  intro g other
  have mine (has : (s.port p).active.has a = true) : (s.port g).active.has a = false := by
    rw [← Bool.not_eq_true]
    exact fun its => other (apart.1 g p a its has)
  unfold swapDrop at h
  split at h
  · cases h
  · next first =>
    rcases has_iff.mp held with slot | slot
    · rcases slotDrop_eq_none first with same | free
      · exact mine (has_iff.mpr (.inl (same.trans slot)))
      · exact free a slot g other
    · rcases slotDrop_eq_none h with same | free
      · exact mine (has_iff.mpr (.inr (same.trans slot)))
      · exact free a slot g other

theorem remapAxes_keeps (st : AxisState) (as : List AxisId) (s : State) :
    Keeps s (forEach as (fun a => modAxis a (remapAxis st)) s) := Keeps.forEach (fun a => modAxis_keeps a _) as s

theorem applySwap_keeps (p : PortId) (s : State) (undropped : swapDrop s p = none) : Keeps s (applySwap p s) := by
  have active : Keeps s (modPort p (fun x => { x with active := x.shadow, swap := false }) s) :=
    setActive_keeps p s (fun apart => (apart.2 p).2) (fun apart _ held => free_of_swapDrop_eq_none apart undropped held)
      (by intro _; rfl) (by intro _; rfl)
  exact ((active.trans (remapAxes_keeps _ _ _)).trans (remapAxes_keeps _ _ _)).trans
    (Keeps.forEach (fun f s => (readiness_gentle f s).keeps (readiness_calm f s)) _ _)

theorem dropSwap_keeps (p : PortId) (e : AxisId × DropCause) (s : State) : Keeps s (dropSwap p e s) :=
  (Keeps.port p (by intro _; rfl) (by intro _; exact id) (by intro _; exact id) s).trans
    (Keeps.of_tame (logEntry_tame _ _) (fun _ => CalmKept.of_flyers rfl) fun _ _ => .inl)

theorem takeSwap_keeps (p : PortId) (s : State) : Keeps s (takeSwap p s) := by
  unfold takeSwap
  split
  · split
    · exact dropSwap_keeps p _ s
    · next undropped => exact applySwap_keeps p s undropped
  · exact Keeps.refl s

/-! ## The drive ports on a motion frame (R137 to R142) -/

theorem axisFault_keeps (code : FaultCode) (d : Detail) (a : AxisId) (s : State) : Keeps s (axisFault code d a s) :=
  (axisFault_gentle code d a s).keeps (axisFault_calm code d a s)

theorem takeMiss_keeps (p : PortId) (s : State) : Keeps s (takeMiss p s) := by
  have missed : Keeps s (modPort p Port.missedOne s) :=
    Keeps.port p (by intro _; rfl) (by intro _; exact id) (by intro _ _; exact Nat.min_le_right _ _) s
  exact (missed.trans (Keeps.forEach (axisFault_keeps _ _) _ _)).ite missed

theorem recordSlot_keeps (a : Option AxisId) (out : Bool × Int) (s : State) : Keeps s (recordSlot a out s) := by
  cases a with
  | none => exact Keeps.refl s
  | some a => exact modAxis_keeps a _ s

theorem portFrame_keeps (p : PortId) (s : State) : Keeps s (portFrame p s) := by
  have misses : Keeps s (accountMiss p s) := (takeMiss_keeps p s).ite (Keeps.refl s)
  refine (misses.trans (takeSwap_keeps p _)).trans ?_
  have sent (frame : List Byte) (s : State) : Keeps s (modPort p (Port.sentOne frame) s) :=
    Keeps.port p (by intro _; rfl) (by intro _; exact id) (by intro _; exact id) s
  exact ((sent _ _).trans (recordSlot_keeps _ _ _)).trans (recordSlot_keeps _ _ _)

/-- The next free value taken: nothing that the five invariants read. -/
theorem nextFree_keeps (s : State) : Keeps s { s with free := s.free + 1 } :=
  Keeps.of_unread rfl rfl rfl rfl rfl rfl rfl rfl rfl

theorem allPortFrames_keeps (s : State) : Keeps s (allPortFrames s) :=
  ((nextFree_keeps s).trans (Keeps.forEach portFrame_keeps _ _)).ite (Keeps.forEach portFrame_keeps _ s)

theorem trajectoryFrame_keeps (s : State) : Keeps s (trajectoryFrame s) :=
  (trajectoryFrame_gentle s).keeps (trajectoryFrame_calm s)

theorem cutOffFlyer_keeps (speed : FlyerId → Int) (f : FlyerId) (s : State) : Keeps s (cutOffFlyer speed f s) :=
  (cutOffFlyer_gentle speed f s).keeps (cutOffFlyer_calm speed f s)

theorem lowerCutOff_keeps (s : State) : Keeps s (lowerCutOff s) := by
  unfold lowerCutOff
  split
  · exact Keeps.of_unread rfl rfl rfl rfl rfl rfl rfl rfl rfl
  · exact Keeps.refl s

theorem motionFrame_keeps (s : State) : Keeps s (motionFrame s) := by
  refine Keeps.trans ?_ (allPortFrames_keeps _)
  unfold trajectoryAndCutOff
  dsimp only
  split
  · refine Keeps.trans ?_ (Keeps.forEach (cutOffFlyer_keeps _) _ _)
    refine Keeps.trans ?_ (trajectoryFrame_keeps _)
    refine Keeps.trans ?_ (Keeps.forEach (cutOffFlyer_keeps _) _ _)
    exact (lowerCutOff_keeps s).trans (nextFree_keeps _)
  · exact (lowerCutOff_keeps s).trans (trajectoryFrame_keeps _)

/-! ## Feedback (R141) -/

theorem acceptFeedback_keeps (p : PortId) (fb0 fb1 : Feedback) (s : State) : Keeps s (acceptFeedback p fb0 fb1 s) := by
  have answered : Keeps s (modPort p Port.answeredOne s) :=
    Keeps.port p (by intro _; rfl) (by intro _; exact id) (by intro _ _; exact Nat.zero_le _) s
  have takes (a : Option AxisId) (fb : Feedback) (s : State) : Keeps s (takeFeedback a fb s) := by
    cases a with
    | none => exact Keeps.refl s
    | some a => exact modAxis_keeps a (fun x => { x with feedback := some fb }) s
  have supervised (a : Option AxisId) (fb : Feedback) (s₀ s : State) : Keeps s (superviseSlot a fb s₀ s) :=
    (superviseSlot_gentle a fb s₀ s).keeps (superviseSlot_calm a fb s₀ s)
  exact ((((answered.trans (takes _ _ _)).trans (takes _ _ _)).trans (supervised _ _ _ _)).trans
    (supervised _ _ _ _)).trans ((settlePort_gentle p _).keeps (settlePort_calm p _))

/-! ## All-stop (R162) -/

/-- Once all-stop is active no flyer is in motion. -/
theorem raiseAllStop_keeps (c : Cause) (s : State) : Keeps s (raiseAllStop c s) := by
  have logged : Keeps s (logCause c .allStop none s) := (logCause_gentle c .allStop none s).keeps (logCause_calm _ _ _ s)
  unfold raiseAllStop
  dsimp only
  split
  · exact logged
  · refine logged.trans ?_
    generalize logCause c .allStop none s = v
    let w : State := { v with allStop := some c, cutCount := frames v.cutoff v.t }
    have gentle : Gentle w (forEach allFlyers (allStopFlyer c) w) := Gentle.forEach (allStopFlyer_gentle c) _ w
    have keeps : Keeps w (forEach allFlyers (allStopFlyer c) w) :=
      gentle.keeps (CalmKept.forEach (allStopFlyer_calm c) _ w)
    exact ⟨keeps.slots, fun _ _ => calm_forEach_allStopFlyer c w, keeps.stores, keeps.apart, keeps.reach,
      keeps.pending⟩

/-! ## The resets (R192) -/

theorem port_reset (p : PortId) : State.reset.port p = Port.initial := Vector.getElem_replicate p.isLt

theorem flyer_reset (f : FlyerId) : State.reset.flyer f = Flyer.initial := Vector.getElem_replicate f.isLt

theorem formation_reset (n : FormationId) : State.reset.formation n = none := Vector.getElem_replicate n.isLt

theorem station_reset (st : Station) : State.reset.station st = StationPort.initial := by cases st <;> rfl

theorem slotsApart_reset : SlotsApart State.reset := by
  refine ⟨fun p g a hp => ?_, fun p => ?_⟩
  · rw [port_reset] at hp
    cases hp
  · rw [port_reset]
    exact ⟨rfl, rfl⟩

theorem allStopCalm_reset : AllStopCalm State.reset := fun active => absurd rfl active

theorem bounded_reset : Bounded State.reset :=
  ⟨Nat.zero_le _, fun st => by rw [station_reset]; exact Nat.zero_le _, fun p => by rw [port_reset]; exact Nat.zero_le _⟩

theorem storeSound_reset : StoreSound State.reset := ⟨List.Pairwise.nil, Nat.zero_le _, Nat.zero_le _⟩

theorem membersApart_reset : MembersApart State.reset := by
  have none (f : FlyerId) : membersOf State.reset f = [] := by rw [membersOf_eq, flyer_reset]; rfl
  simp [MembersApart, none]

theorem formationsSound_reset : FormationsSound State.reset := by
  simp [FormationsSound, formation_reset]

theorem reachPresent_reset : ReachPresent State.reset := by
  rw [reachPresent_iff]
  intro f n mem
  rw [flyer_reset] at mem
  cases mem

/-- A state that meets the invariants, whatever stood before it. -/
theorem Keeps.of_reset (h : Keeps { State.reset with pending := s.pending } t) : Keeps s t :=
  ⟨fun _ => h.slots slotsApart_reset, fun _ => h.calm allStopCalm_reset,
    fun _ => h.stores ⟨bounded_reset, storeSound_reset⟩, fun _ => h.apart ⟨membersApart_reset, formationsSound_reset⟩,
    fun _ => h.reach reachPresent_reset, h.pending⟩

theorem poweredOn_keeps (s : State) : Keeps s (poweredOn s) :=
  Keeps.of_reset (Keeps.of_unread rfl rfl rfl rfl rfl rfl rfl rfl rfl)

@[simp] theorem port_warmed (s : State) (p : PortId) : (warmed s).port p = warmPort (s.port p) :=
  Vector.getElem_map _ p.isLt

@[simp] theorem axis_warmed (s : State) (a : AxisId) : (warmed s).axis a = warmAxis (s.axis a) :=
  Vector.getElem_map _ a.isLt

theorem warmed_keeps (s : State) : Keeps s (warmed s) where
  slots h := by
    simp only [SlotsApart, port_warmed]
    exact ⟨h.1, fun p => ⟨(h.2 p).1, (h.2 p).1⟩⟩
  calm _ active := absurd rfl active
  stores := by
    rintro ⟨⟨log, _, _⟩, order, size, used⟩
    refine ⟨⟨log, fun st => by cases st <;> exact Nat.zero_le _, fun p => by rw [port_warmed]; exact Nat.zero_le _⟩,
      order, size, ?_⟩
    have kept : placesUsed (warmed s) = (s.dir.map fun c => c.recs.length).sum := rfl
    rw [placesUsed] at used
    omega
  apart := by
    rintro ⟨apart, sound⟩
    exact ⟨membersApart_of_defn (fun f => by rw [flyer_warmed]; rfl) apart, sound⟩
  reach _ := by
    rw [reachPresent_iff]
    intro f n mem
    rw [flyer_warmed] at mem
    cases mem
  pending := rfl

end Sys2Proof.Machine
end

section
/-! The reach set that the pre-flight check gives a run: each of its cues is present (R77, R84, R85). -/

namespace Sys2Proof.Machine

variable {dir : List Cue} {kind : RigKind} {e out : Expansion} {s : State}

/-- What the expansion keeps of its reach set, record by record, holds of the reach set it ends with. -/
theorem expand_reach (P : List Nat → Prop)
    (record : ∀ e, recordFailure dir kind e = none → P e.reach → P (reachAfter dir e)) (fuel : Nat) (e : Expansion)
    (ends : expand dir kind fuel e = (out, none)) (start : P e.reach) : P out.reach := by
  induction fuel generalizing e with
  | zero => cases ends
  | succ fuel ih =>
    unfold expand at ends
    split at ends
    · cases ends
    · next passed =>
      have after := record e passed start
      dsimp only at ends
      split at ends
      · exact ih _ ends after
      · exact ih _ ends start
      · exact ih _ ends start
      · exact ih _ ends after
      · cases ends
        exact start

theorem callFailure_eq_none {n : Nat} (h : callFailure dir kind e n = none) :
    (cueOf dir n).isSome = true ∧ (e.reach.contains n = false → e.reach.length < Config.reachPlaces) := by
  unfold callFailure at h
  dsimp only at h
  split at h
  · cases h
  · next c found =>
    split_ifs at h with _ _ full
    · exact ⟨by rw [found]; rfl, fun new => by simp only [not_and, not_le] at full; exact full new⟩

/-- A reach set that a run may have: the started cue and others, at most five, each present (R84, R85). -/
structure Reaches (dir : List Cue) (cue : Nat) (reach : List Nat) : Prop where
  started : cue ∈ reach
  size : reach.length ≤ Config.reachPlaces
  present : ∀ n ∈ reach, (cueOf dir n).isSome = true

theorem reaches_reachAfter {cue : Nat} (passed : recordFailure dir kind e = none) (h : Reaches dir cue e.reach) :
    Reaches dir cue (reachAfter dir e) := by
  unfold reachAfter
  split
  · next n call =>
    simp only [recordFailure, call] at passed
    obtain ⟨present, room⟩ := callFailure_eq_none passed
    split
    · exact h
    · next new =>
      refine ⟨List.mem_append_left _ h.started, ?_, fun m mem => ?_⟩
      · rw [List.length_append]
        exact room (Bool.eq_false_iff.mpr new)
      · rcases List.mem_append.mp mem with old | added
        · exact h.present m old
        · rw [List.mem_singleton.mp added]
          exact present
  · exact h

theorem reaches_expandCue {cue : Nat} (h : expandCue dir kind cue = (out, none)) : Reaches dir cue out.reach := by
  unfold expandCue at h
  dsimp only at h
  split at h
  · cases h
  · next c found =>
    split at h
    · cases h
    · refine expand_reach (Reaches dir cue) (fun _ => reaches_reachAfter) _ _ h ⟨List.mem_singleton_self _, ?_, fun n mem => ?_⟩
      · exact Nat.le_of_ble_eq_true rfl
      · rw [List.mem_singleton.mp mem, found]
        rfl

theorem preflight_eq_ok {f : FlyerId} {cue : Nat} {reach : List Nat} (h : preflight s f kind cue = .ok reach) :
    ∃ e, expandCue s.dir kind cue = (e, none) ∧ testFailure s f kind e.moves.reverse = none ∧ e.reach = reach := by
  unfold preflight at h
  split at h
  · cases h
  · next e expansion =>
    split at h
    · cases h
    · next passed =>
      cases h
      exact ⟨e, expansion, passed, rfl⟩

theorem reaches_preflight {f : FlyerId} {cue : Nat} {reach : List Nat} (h : preflight s f kind cue = .ok reach) :
    Reaches s.dir cue reach := by
  obtain ⟨e, expansion, -, rfl⟩ := preflight_eq_ok h
  exact reaches_expandCue expansion

end Sys2Proof.Machine
end

section
/-! Every request keeps the invariants and leaves the responses that wait (R31, R43, R64, R65, R77, R149, R163, R172,
R175). -/

namespace Sys2Proof.Machine

variable {s t u : State} {q : Req} {f : FlyerId} {a : AxisId}

/-! ## Changes that requests share -/

theorem Serves.ite {c : Prop} [Decidable c] (h : Serves s t) (k : Serves s u) : Serves s (if c then t else u) := by
  split <;> assumption

theorem Serves.forEach {α : Type} {g : α → State → State} (h : ∀ x s, Serves s (g x s)) (l : List α) (s : State) :
    Serves s (forEach l g s) :=
  forEach_rel Serves Serves.refl (fun _ _ _ => Serves.trans) g l (fun x _ => h x) s

theorem Gentle.serves (gentle : Gentle s t) (calm : CalmKept s t) : Serves s t :=
  Serves.of_tame gentle.tame (gentle.keeps calm)

/-- With all-stop inactive a gentle change may move a flyer on. -/
theorem Gentle.serves_of_inactive (gentle : Gentle s t) (inactive : s.allStop = none) : Serves s t :=
  Serves.of_tame gentle.tame
    (Keeps.of_tame gentle.tame (fun active => absurd inactive active) fun f _ mem => .inl ((gentle.flyers f).reach mem))

theorem modAxis_serves (a : AxisId) (g : Axis → Axis) (s : State) : Serves s (modAxis a g s) :=
  Serves.of_tame (modAxis_tame a g s) (modAxis_keeps a g s)

theorem modFlyer_serves (f : FlyerId) {g : Flyer → Flyer} (defn : ∀ x, (g x).defn = x.defn)
    (calm : ∀ x, x.state.calm = true → (g x).state.calm = true) (reach : ∀ x, (g x).reach = x.reach) (s : State) :
    Serves s (modFlyer f g s) :=
  Serves.of_tame (modFlyer_tame f g defn s) (modFlyer_keeps f defn calm reach s)

theorem logCause_serves (c : Cause) (cls : FaultClass) (f : Option FlyerId) (s : State) : Serves s (logCause c cls f s) :=
  (logCause_gentle c cls f s).serves (logCause_calm c cls f s)

theorem modPort_serves {p : PortId} {g : Port → Port} (keeps : Keeps s (modPort p g s)) : Serves s (modPort p g s) :=
  ⟨keeps, fun st => by cases st <;> rfl⟩

theorem station_raiseAllStop (c : Cause) (s : State) (st : Station) : (raiseAllStop c s).station st = s.station st := by
  unfold raiseAllStop
  dsimp only
  split
  · exact (logCause_gentle c .allStop none s).tame.station st
  · refine ((Gentle.forEach (allStopFlyer_gentle c) _ _).tame.station st).trans ?_
    cases st <;> rfl

theorem raiseAllStop_serves (c : Cause) (s : State) : Serves s (raiseAllStop c s) :=
  ⟨raiseAllStop_keeps c s, fun st => by rw [station_raiseAllStop]⟩

/-! ## The grant table (R183, R184) -/

theorem setGrants_serves (fs : List FlyerId) (g : Grant) (s : State) : Serves s (setGrants fs g s) := by
  obtain ⟨G, h⟩ := setGrants_frame fs g s
  rw [h]
  exact Serves.of_unread rfl rfl rfl rfl rfl rfl rfl rfl rfl

theorem claimBody_serves (q : Req) (n : Nat) (s : State) : Serves s (claimBody q n s).1 := by
  unfold claimBody
  split
  · exact Serves.refl s
  · dsimp only
    split
    · exact setGrants_serves _ _ s
    · exact Serves.refl s

theorem releaseBody_serves (q : Req) (n : Nat) (s : State) : Serves s (releaseBody q n s).1 := by
  unfold releaseBody
  split
  · exact Serves.refl s
  · split
    · exact Serves.refl s
    · split
      · exact Serves.refl s
      · exact setGrants_serves _ _ s

/-! ## The rig table (R22, R31, R33, R36, R43, R44) -/

theorem recomputeRig_serves (f : FlyerId) (s : State) : Serves s (recomputeRig f s) := by
  unfold recomputeRig
  split
  · exact modFlyer_serves f (by intro _; rfl) (by intro _; exact id) (by intro _; rfl) s
  · exact Serves.refl s

theorem setAxisBody_serves (q : Req) (n : Nat) (p : AxisParams) (s : State) : Serves s (setAxisBody q n p s).1 := by
  unfold setAxisBody setMemberAxis setFreeAxis
  split
  · split
    · dsimp only
      split_ifs
      · exact Serves.refl s
      · exact Serves.refl s
      · exact Serves.refl s
      · exact Serves.refl s
      · split
        · exact Serves.refl s
        · split_ifs
          · exact Serves.refl s
          · exact Serves.refl s
          · exact (modAxis_serves _ _ s).trans (recomputeRig_serves _ _)
    · split_ifs
      · exact Serves.refl s
      · exact Serves.refl s
      · exact modAxis_serves _ (fun x => { x with params := some p, slack := 0 }) s
  · exact Serves.refl s

theorem setFlyerBody_serves (q : Req) (n : Nat) (d : FlyerFields) (s : State) : Serves s (setFlyerBody q n d s).1 := by
  unfold setFlyerBody
  split
  · next fields =>
    split_ifs with _ _ unusable
    · exact Serves.refl s
    · exact Serves.refl s
    · exact Serves.refl s
    · exact Serves.refl s
    · exact Serves.refl s
    · exact installDefinition_serves _ _ s (fitsIn_of_usable (flyerDefOf_nodup fields) (by simpa using unusable))
  · exact Serves.refl s

theorem clearFlyerBody_serves (q : Req) (n : Nat) (s : State) : Serves s (clearFlyerBody q n s).1 := by
  unfold clearFlyerBody
  split
  · exact Serves.refl s
  · next f _ =>
    split_ifs
    · exact Serves.refl s
    · exact Serves.refl s
    · exact Serves.refl s
    · exact Serves.refl s
    · have cleared : Serves s (s.setFlyer f Flyer.initial) :=
        ⟨setFlyer_keeps f _ s (fun d h => by cases h) (fun _ => rfl) (List.nil_subset _), fun st => by
          rw [State.station_setFlyer]⟩
      exact cleared.trans (setGrants_serves [f] Grant.initial _)

theorem setFormationBody_serves (q : Req) (n : Nat) (d : FormationFields) (s : State) :
    Serves s (setFormationBody q n d s).1 := by
  unfold setFormationBody
  split
  · next n m _ fields =>
    split_ifs with unusable
    · exact Serves.refl s
    · exact Serves.refl s
    · dsimp only
      split
      · exact Serves.refl s
      · have record : Serves s (s.setFormation n (some m)) :=
          setFormation_serves n (some m) s (by rintro _ ⟨⟩; exact formationOf_nodup fields)
            (by rintro _ ⟨⟩; simpa using unusable)
        have aligned (e : FlyerId × Vec3) (s : State) : Serves s (alignFollower m.leader e s) :=
          Serves.of_tame (alignFollower_tame _ e s) (alignFollower_keeps _ e s)
        exact record.trans (Serves.forEach aligned _ _)
  · exact Serves.refl s

theorem clearFormationBody_serves (q : Req) (n : Nat) (s : State) : Serves s (clearFormationBody q n s).1 := by
  unfold clearFormationBody
  split
  · exact Serves.refl s
  · split_ifs
    · exact Serves.refl s
    · split
      · exact Serves.refl s
      · split
        · exact Serves.refl s
        · exact setFormation_serves _ none s (fun _ h => by cases h) fun _ h => by cases h

/-- A motion request that passes its checks finds all-stop inactive (R164). -/
theorem motionRequest_serves {needEnable : Bool} {n : Nat} {k : FlyerId → State → State × Reply} {s : State}
    (h : s.allStop = none → ∀ f, Serves s (k f s).1) : Serves s (motionRequest q needEnable n k s).1 := by
  unfold motionRequest
  split
  · exact Serves.refl s
  · split_ifs with _ _ active
    · exact Serves.refl s
    · exact Serves.refl s
    · exact Serves.refl s
    · exact Serves.refl s
    · exact Serves.refl s
    · exact h (by simpa using active) _

theorem takePoints_serves (p : Vec3) (fs : List (FlyerId × Vec3)) (s : State) : Serves s (takePoints p fs s) :=
  Serves.forEach (g := fun (e : FlyerId × Vec3) => modFlyer e.1 fun x =>
      { x with point := some (mmToNano (p.add e.2)), located := true, state := .parked })
    (fun e s => modFlyer_serves e.1 (by intro _; rfl) (by intro _ _; rfl) (by intro _; rfl) s) fs s

theorem locateBody_serves (q : Req) (n : Nat) (p : Vec3) (s : State) : Serves s (locateBody q n p s).1 := by
  unfold locateBody
  split
  · exact Serves.refl s
  · split
    · exact Serves.refl s
    · refine motionRequest_serves fun _ f => ?_
      split
      · exact Serves.refl s
      · split
        · exact Serves.refl s
        · exact takePoints_serves p _ s

/-! ## The airspace (R55, R56) -/

theorem setZoneBody_serves (n : Nat) (d : ZoneFields) (s : State) : Serves s (setZoneBody n d s).1 := by
  unfold setZoneBody
  split
  · split
    · exact Serves.refl s
    · split
      · exact Serves.refl s
      · split
        · exact Serves.refl s
        · exact Serves.of_unread rfl rfl rfl rfl rfl rfl rfl rfl rfl
  · exact Serves.refl s

theorem setSeparationBody_serves (n : Nat) (s : State) : Serves s (setSeparationBody n s).1 := by
  unfold setSeparationBody
  split_ifs
  · exact Serves.refl s
  · exact Serves.refl s
  · split
    · exact Serves.refl s
    · exact Serves.of_unread rfl rfl rfl rfl rfl rfl rfl rfl rfl

/-! ## Slot tables (R149, R150) -/

theorem writeSlotsBody_serves (n i j : Nat) (s : State) : Serves s (writeSlotsBody n i j s).1 := by
  unfold writeSlotsBody
  split
  · next p t _ slots =>
    split
    · exact Serves.refl s
    · split
      · exact Serves.refl s
      · exact modPort_serves (g := fun x => { x with shadow := t })
          (Keeps.port p (by intro _; rfl) (by intro _ _; exact slotsOf_doubled slots) (by intro _; exact id) s)
  · exact Serves.refl s

theorem swapSlotsBody_serves (n : Nat) (s : State) : Serves s (swapSlotsBody n s).1 := by
  unfold swapSlotsBody
  split
  · exact Serves.refl s
  · next p _ =>
    split
    · exact Serves.refl s
    · exact modPort_serves (g := fun x => { x with swap := true })
        (Keeps.port p (by intro _; rfl) (by intro _; exact id) (by intro _; exact id) s)

/-! ## The cue store (R67 to R78) -/

theorem refuseSegment_serves (st : Station) (r : ResultCode) (items : List Item) (s : State) :
    Serves s (refuseSegment st r items s).1 := rewind_serves st s

theorem completeUpload_serves {st : Station} {x : Upload} (open_ : (s.station st).upload = some x) :
    Serves s (completeUpload st x s).1 := by
  unfold completeUpload
  split
  · exact refuseSegment_serves ..
  · split
    · exact refuseSegment_serves ..
    · dsimp only
      split
      · exact refuseSegment_serves ..
      · next room =>
        split
        · exact refuseSegment_serves ..
        · refine installed_serves { num := x.num, kind := x.kind, recs := x.recs } open_ rfl ?_
          simp only [not_and, not_le] at room
          cases found : (cueOf s.dir x.num).isSome
          · exact .inr (room found)
          · exact .inl rfl

/-- An upload context that a segment takes further stands in the station's port with the records collected so far, or
with none. -/
theorem takeSegment_serves {st : Station} {x : Upload} {seg : SegmentFields}
    (collected : x.recs.length ≤ uploadLength (s.station st).upload) : Serves s (takeSegment st x seg s).1 := by
  unfold takeSegment
  split
  · exact refuseSegment_serves ..
  · split
    · exact refuseSegment_serves ..
    · next room =>
      dsimp only
      have taken : Serves s (setUpload st (some { x with next := x.next + 1, recs := x.recs ++ seg.recs }) s) := by
        refine setUpload_serves st _ s fun pool => ?_
        have places := placesUsed_setUpload st (some { x with next := x.next + 1, recs := x.recs ++ seg.recs }) s
        rw [poolFree_eq] at room
        simp only [uploadLength_some, List.length_append] at places
        omega
      split
      · exact taken.trans (completeUpload_serves (by rw [station_setUpload_self]))
      · exact taken

theorem cueSegmentBody_serves (st : Station) (seg : SegmentFields) (s : State) : Serves s (cueSegmentBody st seg s).1 := by
  unfold cueSegmentBody
  split
  · exact refuseSegment_serves ..
  · split
    · exact refuseSegment_serves ..
    · split
      · unfold firstSegment
        dsimp only
        refine (rewind_serves st s).trans ?_
        split_ifs
        · exact refuseSegment_serves ..
        · exact refuseSegment_serves ..
        · exact takeSegment_serves (Nat.zero_le _)
      · unfold laterSegment
        split
        · exact refuseSegment_serves ..
        · next x open_ =>
          split_ifs
          · exact refuseSegment_serves ..
          · exact refuseSegment_serves ..
          · exact refuseSegment_serves ..
          · exact takeSegment_serves (by rw [open_, uploadLength_some])

theorem deleteCueBody_serves (n : Nat) (s : State) : Serves s (deleteCueBody n s).1 := by
  unfold deleteCueBody
  split
  · exact Serves.refl s
  · split
    · exact Serves.refl s
    · split
      · exact Serves.refl s
      · next unreached =>
        refine ⟨⟨id, id, ?_, id, fun present m reached => ?_, rfl⟩, fun st => by cases st <;> rfl⟩
        · rintro ⟨bounded, order, size, used⟩
          refine ⟨bounded, order.filter _, (List.length_filter_le _ _).trans size, ?_⟩
          have less : ((s.dir.filter fun c => c.num != n).map fun c => c.recs.length).sum ≤
              (s.dir.map fun c => c.recs.length).sum :=
            (List.filter_sublist.map _).sum_le_sum fun _ _ => Nat.zero_le _
          simp only [placesUsed] at used ⊢
          exact (Nat.add_le_add_right (Nat.add_le_add_right less _) _).trans used
        · have other : m ≠ n := fun e => unreached (e ▸ reached)
          change (cueOf (s.dir.filter fun c => c.num != n) m).isSome = true
          obtain ⟨c, mem, num⟩ := cueOf_isSome_iff.mp (present m reached)
          exact cueOf_isSome_iff.mpr ⟨c, List.mem_filter.mpr ⟨mem, by simpa [num] using other⟩, num⟩

/-! ## The motion requests (R39, R81, R105, R121, R122, R125) -/

theorem enterReleasing_tame (f : FlyerId) (r : Run) (s : State) : Tame s (enterReleasing f r s) :=
  ((setStates_tame _ _ s).trans (Tame.forEach engage_tame _ _)).trans (modFlyer_tame f (fun x => { x with run := some r }) (by intro _; rfl) _)

/-- The run that a flyer enters RELEASING with brings its own reach set. -/
theorem reach_enterReleasing (f g : FlyerId) (r : Run) (s : State) :
    (((enterReleasing f r s).flyer g).reach) ⊆ if f = g then r.reach else (s.flyer g).reach := by
  have engaged : Gentle s (forEach (concernedFlyers s f) engage (setStates (concernedFlyers s f) .releasing s)) :=
    (setStates_gentle _ _ s).trans (Gentle.forEach engage_gentle _ _)
  unfold enterReleasing
  rw [flyer_modFlyer]
  split
  · exact fun _ => id
  · exact (engaged.flyers g).reach

/-- A flyer enters RELEASING, and leaves it at once where its brakes are released, with all-stop inactive and every cue
of its run present. -/
theorem startRun_serves (f : FlyerId) {r : Run} (inactive : s.allStop = none)
    (present : ∀ n ∈ r.reach, (cueOf s.dir n).isSome = true) : Serves s (testRelease f (enterReleasing f r s)) := by
  have tame := enterReleasing_tame f r s
  have entered : Serves s (enterReleasing f r s) := by
    refine Serves.of_tame tame (Keeps.of_tame tame (fun active => absurd inactive active) fun g n mem => ?_)
    have mem := reach_enterReleasing f g r s mem
    split at mem
    · exact .inr (present n mem)
    · exact .inl mem
  exact entered.trans ((testRelease_gentle f _).serves (testRelease_calm f _))

theorem startCueBody_serves (q : Req) (n c : Nat) (s : State) : Serves s (startCueBody q n c s).1 := by
  unfold startCueBody
  split
  · exact Serves.refl s
  · refine motionRequest_serves fun inactive f => ?_
    split
    · exact Serves.refl s
    · unfold startChecked
      split
      · exact Serves.refl s
      · split
        · exact Serves.refl s
        · next accepted => exact startRun_serves f inactive (reaches_preflight accepted).present

theorem jogFlyer_serves (v : Vec3) (f : FlyerId) (s : State) (inactive : s.allStop = none) :
    Serves s (jogFlyer v f s).1 := by
  unfold jogFlyer
  split
  · exact Serves.refl s
  · dsimp only
    split
    · exact (modRun_gentle f (by intro _; rfl) s).serves (modRun_calm f _ s)
    · split
      · exact Serves.refl s
      · split
        · exact Serves.refl s
        · exact startRun_serves f inactive fun _ h => by cases h

theorem holdFlyer_serves (f : FlyerId) (s : State) (inactive : s.allStop = none) : Serves s (holdFlyer f s).1 := by
  unfold holdFlyer
  split
  · exact (setStates_gentle _ _ s).serves_of_inactive inactive
  · exact (setStates_gentle _ _ s).serves_of_inactive inactive
  · exact (setStates_gentle _ _ s).serves_of_inactive inactive
  all_goals exact Serves.refl s

theorem resumeFlyer_serves (f : FlyerId) (s : State) (inactive : s.allStop = none) : Serves s (resumeFlyer f s).1 := by
  unfold resumeFlyer
  split
  · exact ((modRun_gentle f (by intro _; rfl) s).trans (setStates_gentle _ _ _)).serves_of_inactive inactive
  all_goals exact Serves.refl s

theorem goFlyer_serves (f : FlyerId) (s : State) (inactive : s.allStop = none) : Serves s (goFlyer f s).1 := by
  unfold goFlyer
  split
  · exact (runInterpreter_gentle f s).serves_of_inactive inactive
  all_goals exact Serves.refl s

theorem stopFlyerAt_serves (f : FlyerId) (s : State) (inactive : s.allStop = none) : Serves s (stopFlyerAt f s).1 := by
  unfold stopFlyerAt
  split
  · exact (leaveRun_gentle f .parked s).serves_of_inactive inactive
  · exact (leaveRun_gentle f .parked s).serves_of_inactive inactive
  · exact (setStates_gentle _ _ s).serves_of_inactive inactive
  · exact (setStates_gentle _ _ s).serves_of_inactive inactive
  · exact (setStates_gentle _ _ s).serves_of_inactive inactive
  all_goals exact Serves.refl s

/-! ## Stops, alarms and the log (R162, R166, R168, R170, R171, R173) -/

theorem releaseAllStopBody_serves (s : State) : Serves s (releaseAllStopBody s).1 := by
  unfold releaseAllStopBody
  split_ifs
  · exact Serves.refl s
  · exact Serves.refl s
  · exact Serves.refl s
  · exact ⟨⟨id, fun _ active => absurd rfl active, id, id, id, rfl⟩, fun st => by cases st <;> rfl⟩

theorem raiseAlarmBody_serves (st : Station) (n c f : Nat) (s : State) : Serves s (raiseAlarmBody st n c f s).1 := by
  unfold raiseAlarmBody
  dsimp only
  split
  · exact Serves.refl s
  · split
    · exact logCause_serves ..
    · split
      · split
        · exact Serves.refl s
        · split
          · exact Serves.refl s
          · exact (takeFault_gentle _ _ _ _ s).serves (takeFault_calm _ _ _ _ s)
      · split
        · exact raiseAllStop_serves _ s
        · exact Serves.refl s

theorem readiness_serves (f : FlyerId) (s : State) : Serves s (readiness f s) :=
  (readiness_gentle f s).serves (readiness_calm f s)

theorem clearFlyerFault_serves (f : FlyerId) (s : State) : Serves s (clearFlyerFault f s) := by
  have left : Serves s (modFlyer f leaveFaulted s) :=
    modFlyer_serves f (by intro _; rfl) (by intro x _; cases hl : x.located <;> simp [leaveFaulted, hl] <;> rfl)
      (by intro _; rfl) s
  exact ((left.trans ((disengage_gentle f _).serves (disengage_calm f _))).trans (readiness_serves f _)).ite
    (readiness_serves f s)

theorem clearFaultBody_serves (q : Req) (n : Nat) (s : State) : Serves s (clearFaultBody q n s).1 := by
  unfold clearFaultBody
  split
  · exact Serves.refl s
  · split_ifs
    · exact Serves.refl s
    · exact Serves.refl s
    · exact Serves.refl s
    · exact Serves.refl s
    · split
      · exact Serves.refl s
      · split
        · exact Serves.refl s
        · exact (Serves.forEach (fun a => modAxis_serves a clearedAxis) _ s).trans
            (Serves.forEach clearFlyerFault_serves _ _)

theorem clearAxisBody_serves (n : Nat) (s : State) : Serves s (clearAxisBody n s).1 := by
  unfold clearAxisBody
  split
  · exact Serves.refl s
  · split_ifs
    · exact Serves.refl s
    · exact Serves.refl s
    · exact Serves.refl s
    · exact Serves.refl s
    · exact modAxis_serves _ _ s

theorem setLogModeBody_serves (n : Nat) (s : State) : Serves s (setLogModeBody n s).1 := by
  unfold setLogModeBody
  split
  · exact Serves.refl s
  · split
    · exact Serves.refl s
    · exact Serves.of_unread rfl rfl rfl rfl rfl rfl rfl rfl rfl

theorem clearLog_serves (s : State) : Serves s { s with log := [] } :=
  ⟨⟨id, id, fun h => ⟨⟨Nat.zero_le _, h.1.2⟩, h.2⟩, id, id, rfl⟩, fun st => by cases st <;> rfl⟩

/-! ## The image (R196, R197) -/

theorem setTimingBody_serves (n c : Nat) (s : State) : Serves s (setTimingBody n c s).1 := by
  unfold setTimingBody
  split_ifs
  · exact Serves.refl s
  · exact Serves.refl s
  · exact Serves.of_unread rfl rfl rfl rfl rfl rfl rfl rfl rfl

theorem saveConfigBody_serves (s : State) : Serves s (saveConfigBody s).1 := by
  unfold saveConfigBody
  split
  · exact Serves.refl s
  · split
    · exact Serves.refl s
    · exact Serves.of_unread rfl rfl rfl rfl rfl rfl rfl rfl rfl

/-! ## The reads (R79, R186 to R190) -/

theorem readCueBody_serves (c n : Nat) (s : State) : Serves s (readCueBody c n s).1 := by
  unfold readCueBody
  split
  · exact Serves.refl s
  · split
    · split <;> exact Serves.refl s
    · split
      · exact Serves.refl s
      · split <;> exact Serves.refl s

theorem readLogBody_serves (n : Nat) (s : State) : Serves s (readLogBody n s).1 := by
  unfold readLogBody
  split <;> exact Serves.refl s

end Sys2Proof.Machine
end

section
/-! Every command, and so every step, keeps the slots, the calm of all-stop, the bounded stores, the members and the
reached cues. -/

namespace Sys2Proof.Machine

variable {s t : State} {q : Req}

/-! ## The end of an event, and requests (R169, R176, R177, R185) -/

theorem finish_keeps (s : State) : Keeps s (finish s) := by
  obtain ⟨G, h⟩ := finish_shape s
  rw [h]
  exact Keeps.of_unread rfl rfl rfl rfl rfl rfl rfl rfl rfl

theorem whileRunning_keeps {g : State → State} (keeps : Keeps s (g s)) (h : whileRunning s g = .next t) : Keeps s t := by
  unfold whileRunning at h
  split at h
  · cases h
    exact keeps.trans (finish_keeps _)
  · cases h
    exact Keeps.refl s

theorem enableRelease_keeps (st : Station) (s : State) : Keeps s (enableRelease st s) :=
  (enableRelease_gentle st s).keeps (enableRelease_calm st s)

theorem arrive_keeps (st : Station) (enable : Bool) (s : State) : Keeps s (arrive st enable s) := by
  unfold arrive
  dsimp only
  have enabled : Keeps s (modStation st (fun p => { p with enable := enable }) s) :=
    Keeps.station st s (by intro _; rfl) id
  refine Keeps.trans ?_ (Keeps.station st _ (by intro _; rfl) id)
  split
  · exact enabled
  · exact enabled.trans (enableRelease_keeps st _)

/-- A response that finds a place in its queue. -/
theorem answer_keeps (q : Req) (code : Nat) (r : Reply) (s : State)
    (room : (s.station q.st).queue.length < Config.queuePlaces) : Keeps s (answer q code r s) :=
  Keeps.station q.st s (by intro _; rfl) fun _ => by rw [List.length_append]; exact room

theorem serve_keeps (code : Nat) {misfit body : State → State × Reply} (unfit : ∀ s, Serves s (misfit s).1)
    (served : ∀ s, Serves s (body s).1) (s : State) : Keeps s (serve q code misfit body s) := by
  unfold serve
  split
  · exact Keeps.station q.st s (by intro _; rfl) id
  · next free =>
    dsimp only
    have counted : Serves s (modStation q.st (fun p => { p with good := p.good + 1 }) s) :=
      ⟨Keeps.station q.st s (by intro _; rfl) id, fun st => by rw [station_modStation]; split <;> rfl⟩
    have decided (out : State → State × Reply) (serves : ∀ s, Serves s (out s).1) :
        Keeps s (answer q code (out (modStation q.st (fun p => { p with good := p.good + 1 }) s)).2
          (out (modStation q.st (fun p => { p with good := p.good + 1 }) s)).1) := by
      have all := counted.trans (serves _)
      exact all.keeps.trans (answer_keeps q code _ _ (by rw [all.queue]; omega))
    split
    · exact decided body served
    · exact decided misfit unfit

/-- A request whose body keeps the invariants keeps them as a command. -/
theorem takeRequest_keeps {code : Nat} {body : State → State × Reply} (served : ∀ s, Serves s (body s).1)
    (h : takeRequest q code body s = .next t) : Keeps s t :=
  whileRunning_keeps ((arrive_keeps q.st q.enable s).trans (serve_keeps code (fun s => Serves.refl s) served _)) h

theorem cueSegment_keeps {seg : SegmentFields} (h : execCueSegment q seg s = .next t) : Keeps s t :=
  whileRunning_keeps ((arrive_keeps q.st q.enable s).trans
    (serve_keeps 0x30 (refuseSegment_serves q.st .badFrame []) (cueSegmentBody_serves q.st seg) _)) h

theorem unknownRequest_keeps {code : Nat} (h : execUnknownRequest q code s = .next t) : Keeps s t :=
  whileRunning_keeps ((arrive_keeps q.st q.enable s).trans
    (serve_keeps code (fun s => Serves.refl s) (fun s => Serves.refl s) _)) h

/-! ## The links (R175 to R179, R193) -/

theorem sendResponse_keeps (st : Station) (s : State) : Keeps s (sendResponse st s) := by
  refine Keeps.station st s (fun p => ?_) fun full => ?_
  · cases p.queue <;> rfl
  · cases queue : (s.station st).queue with
    | nil => rw [queue]; exact Nat.zero_le _
    | cons r rest =>
      rw [queue] at full
      exact Nat.le_of_succ_le full

theorem weighGrant_keeps (st : Station) (f : FlyerId) (s : State) : Keeps s (weighGrant st f s) := by
  unfold weighGrant
  split
  · split <;> exact Keeps.of_unread rfl rfl rfl rfl rfl rfl rfl rfl rfl
  · exact Keeps.refl s

/-- A station's upload and its waiting responses are gone (R179). -/
theorem emptied_keeps (st : Station) (s : State) :
    Keeps s (modStation st (fun p => { p with upload := none, queue := [] }) s) := by
  have emptied : modStation st (fun p => { p with upload := none, queue := [] }) s =
      modStation st (fun p => { p with queue := [] }) (rewind st s) := by
    cases st <;> rfl
  rw [emptied]
  exact (rewind_serves st s).keeps.trans
    (Keeps.station (g := fun p => { p with queue := [] }) st _ (by intro _; rfl) fun _ => Nat.zero_le _)

theorem loseLink_keeps (st : Station) (s : State) : Keeps s (loseLink st s) := by
  unfold loseLink
  refine Keeps.trans ?_ (Keeps.forEach (weighGrant_keeps st) _ _)
  refine Keeps.trans ?_ (emptied_keeps st _)
  refine Keeps.trans ?_ (logCause_serves _ _ _ _).keeps
  refine Keeps.trans ?_ (enableRelease_keeps st _)
  exact Keeps.station st s (by intro _; rfl) id

theorem ageTimer_keeps (st : Station) (s : State) : Keeps s (ageTimer st s) := by
  unfold ageTimer
  split
  · exact Keeps.refl s
  · exact loseLink_keeps st s
  · exact Keeps.station st s (by intro _; rfl) id

theorem clockTick_keeps (s : State) : Keeps s (clockTick s) :=
  ((ageTimer_keeps .a s).trans (ageTimer_keeps .b _)).trans (Keeps.of_unread rfl rfl rfl rfl rfl rfl rfl rfl rfl)

/-! ## The loading of the image (R194, R195) -/

/-- What the loading of an image does: it keeps the invariants, and no flyer moves. -/
structure Loads (s t : State) : Prop where
  keeps : Keeps s t
  calm : CalmKept s t

theorem Loads.refl (s : State) : Loads s s := ⟨Keeps.refl s, CalmKept.refl s⟩

theorem Loads.trans {u : State} (h : Loads s t) (k : Loads t u) : Loads s u := ⟨h.keeps.trans k.keeps, h.calm.trans k.calm⟩

theorem Loads.forEach {α : Type} {g : α → State → State} (h : ∀ x s, Loads s (g x s)) (l : List α) (s : State) :
    Loads s (forEach l g s) :=
  forEach_rel Loads Loads.refl (fun _ _ _ => Loads.trans) g l (fun x _ => h x) s

theorem takeItem_loads {α : Type} (offset : Nat) (item : Option α) {put : α → State → State} (s : State)
    (taken : ∀ x, item = some x → Loads s (put x s)) : Loads s (takeItem offset item put s) := by
  cases item with
  | none => exact ⟨(logCause_serves _ _ _ s).keeps, logCause_calm _ _ _ s⟩
  | some x => exact taken x rfl

theorem loadSettings_loads (bs : List Byte) (s : State) : Loads s (loadSettings bs s) := by
  have setting {α : Type} (offset : Nat) (item : Option α) {put : α → State → State}
      (unread : ∀ x s, (put x s).ports = s.ports ∧ (put x s).allStop = s.allStop ∧ (put x s).flyers = s.flyers ∧
        (put x s).formations = s.formations ∧ (put x s).dir = s.dir ∧ (put x s).log = s.log ∧
        (put x s).stationA = s.stationA ∧ (put x s).stationB = s.stationB ∧ (put x s).pending = s.pending) (s : State) :
      Loads s (takeItem offset item put s) :=
    takeItem_loads offset item s fun x _ =>
      have ⟨ports, allStop, flyers, formations, dir, log, stationA, stationB, pending⟩ := unread x s
      ⟨Keeps.of_unread ports allStop flyers formations dir log stationA stationB pending, CalmKept.of_flyers flyers⟩
  unfold loadSettings
  refine (((setting _ _ ?_ s).trans (setting _ _ ?_ _)).trans (setting _ _ ?_ _)).trans (setting _ _ ?_ _)
  all_goals exact fun _ _ => ⟨rfl, rfl, rfl, rfl, rfl, rfl, rfl, rfl, rfl⟩

theorem loadAxis_loads (bs : List Byte) (a : AxisId) (s : State) : Loads s (loadAxis bs a s) :=
  takeItem_loads _ _ s fun _ _ => ⟨modAxis_keeps a _ s, modAxis_calm a _ s⟩

theorem slotsAt_eq_some {bs : List Byte} {p : PortId} {x : Slots} (h : slotsAt bs p s = some x) :
    slotsOf (u8At bs (portOffset p)) (u8At bs (portOffset p + 1)) = some x ∧ stagedElsewhere s p x = none := by
  unfold slotsAt at h
  split at h
  · next slots =>
    split at h
    · cases h
    · next free =>
      cases h
      exact ⟨slots, by simpa using free⟩
  · cases h

theorem loadSlots_loads (bs : List Byte) (p : PortId) (s : State) : Loads s (loadSlots bs p s) :=
  takeItem_loads _ _ s fun x item => by
    obtain ⟨slots, free⟩ := slotsAt_eq_some item
    exact ⟨setActive_keeps p s (fun _ => slotsOf_doubled slots)
      (fun _ a held => stagedElsewhere_eq_none_iff.mp free a held) (by intro _; rfl) (by intro _; rfl), id⟩

/-- An entry that reads as present was read. -/
theorem entryAt_eq_some_some {α : Type} {bs : List Byte} {i : Nat} {read : Option α} {x : α}
    (h : entryAt bs i read = some (some x)) : read = some x := by
  unfold entryAt at h
  split_ifs at h
  · cases h
  · cases read <;> cases h
    rfl

theorem bind_passing_eq_some {α : Type} {item : Option α} {test : α → Bool} {x : α}
    (h : item.bind (passing test) = some x) : item = some x ∧ test x = true := by
  obtain ⟨y, read, passed⟩ := Option.bind_eq_some_iff.mp h
  unfold passing at passed
  split_ifs at passed with ok
  cases passed
  exact ⟨read, ok⟩

theorem loadFlyer_loads (bs : List Byte) (f : FlyerId) (s : State) : Loads s (loadFlyer bs f s) := by
  unfold loadFlyer
  refine takeItem_loads _ _ s fun d item => ?_
  cases d with
  | none => exact Loads.refl s
  | some d =>
    obtain ⟨fields, usable⟩ := bind_passing_eq_some (entryAt_eq_some_some item)
    have fits : FitsIn s f d := fitsIn_of_usable (flyerDefOf_nodup fields) usable
    refine ⟨setFlyer_keeps f _ s (by rintro e ⟨⟩; exact fits) (fun _ => rfl) (List.nil_subset _), fun calm g => ?_⟩
    unfold putDefinition
    rw [State.flyer_setFlyer]
    split
    · rfl
    · exact calm g

theorem loadFormation_loads (bs : List Byte) (n : FormationId) (s : State) : Loads s (loadFormation bs n s) := by
  unfold loadFormation
  refine takeItem_loads _ _ s fun m item => ⟨setFormation_keeps n m s ?_ ?_, id⟩
  · rintro m rfl
    exact formationOf_nodup (bind_passing_eq_some (entryAt_eq_some_some item)).1
  · rintro m rfl
    exact (bind_passing_eq_some (entryAt_eq_some_some item)).2

theorem loadZone_loads (bs : List Byte) (z : ZoneId) (s : State) : Loads s (loadZone bs z s) :=
  takeItem_loads _ _ s fun _ _ => ⟨Keeps.of_unread rfl rfl rfl rfl rfl rfl rfl rfl rfl, id⟩

theorem loadImage_loads (answers : Bool) (s : State) : Loads s (loadImage answers s) := by
  unfold loadImage
  split
  · refine Loads.trans ?_ (Loads.forEach (loadZone_loads _) _ _)
    refine Loads.trans ?_ (Loads.forEach (loadFormation_loads _) _ _)
    refine Loads.trans ?_ (Loads.forEach (loadFlyer_loads _) _ _)
    refine Loads.trans ?_ (Loads.forEach (loadSlots_loads _) _ _)
    exact (loadSettings_loads _ s).trans (Loads.forEach (loadAxis_loads _) _ _)
  · exact ⟨(logCause_serves _ _ _ s).keeps, logCause_calm _ _ _ s⟩

/-! ## The end of start-up (R192) -/

@[simp] theorem port_alignShadow (p i : PortId) (s : State) :
    (alignShadow p s).port i = if p = i then { s.port i with shadow := (s.port i).active } else s.port i :=
  port_modPort ..

theorem alignShadow_keeps (p : PortId) (s : State) : Keeps s (alignShadow p s) where
  slots h := by
    have same (i : PortId) : ((alignShadow p s).port i).active = (s.port i).active := by
      rw [port_alignShadow]
      split <;> rfl
    simp only [SlotsApart, same]
    refine ⟨h.1, fun i => ⟨(h.2 i).1, ?_⟩⟩
    rw [port_alignShadow]
    split
    · exact (h.2 i).1
    · exact (h.2 i).2
  calm := id
  stores h := by
    refine ⟨⟨h.1.1, h.1.2.1, fun i => ?_⟩, h.2⟩
    rw [port_alignShadow]
    split <;> exact h.1.2.2 i
  apart := id
  reach := id
  pending := rfl

theorem readChain_keeps (calm : ∀ f, (s.flyer f).state.calm = true) : Keeps s (readChain s) := by
  unfold readChain
  split
  · have logged := (logCause_serves chainStop .allStop none s).keeps
    exact ⟨logged.slots, fun _ _ => calm, logged.stores, logged.apart, logged.reach, logged.pending⟩
  · exact Keeps.refl s

/-- Start-up ends with no flyer in motion, so that an open chain may raise all-stop. -/
theorem startRunning_keeps (calm : ∀ f, (s.flyer f).state.calm = true) : Keeps s (startRunning s) := by
  have aligned : Loads s (forEach allPorts alignShadow s) :=
    Loads.forEach (fun p s => ⟨alignShadow_keeps p s, id⟩) _ _
  have mapped : Loads s (forEach allAxes mapAxis (forEach allPorts alignShadow s)) :=
    aligned.trans (Loads.forEach (fun a s => ⟨modAxis_keeps a _ s, modAxis_calm a _ s⟩) _ _)
  have read := mapped.keeps.trans (readChain_keeps (mapped.calm calm))
  unfold startRunning
  refine (read.trans ?_).trans (finish_keeps _)
  exact Keeps.of_unread rfl rfl rfl rfl rfl rfl rfl rfl rfl

theorem calm_poweredOn (s : State) (f : FlyerId) : ((poweredOn s).flyer f).state.calm = true := by
  rw [flyer_poweredOn]
  rfl

theorem calm_warmed (s : State) (f : FlyerId) : ((warmed s).flyer f).state.calm = true := by
  rw [flyer_warmed]
  unfold warmFlyer
  cases (s.flyer f).defn <;> rfl

theorem startUpEnd_keeps {answers : Bool} (h : execStartUpEnd answers s = .next t) : Keeps s t := by
  have on : Keeps s (startRunning (loadImage answers (poweredOn s))) :=
    have loaded := loadImage_loads answers (poweredOn s)
    ((poweredOn_keeps s).trans loaded.keeps).trans (startRunning_keeps (loaded.calm (calm_poweredOn s)))
  have warm : Keeps s (startRunning (warmed s)) := (warmed_keeps s).trans (startRunning_keeps (calm_warmed s))
  unfold execStartUpEnd at h
  split at h
  · exact Host.Outcome.next.inj h ▸ on
  · exact Host.Outcome.next.inj h ▸ warm
  · exact Host.Outcome.next.inj h ▸ Keeps.refl s

/-! ## The flash (R198) -/

theorem saveFails_keeps (detail : Nat) (s : State) : Keeps s (saveFails detail s) :=
  have failed : Keeps s { s with image := .saveFailed, saveStep := 0 } := Keeps.of_unread rfl rfl rfl rfl rfl rfl rfl rfl rfl
  failed.trans (logCause_serves ..).keeps

theorem flashDone_keeps (data : List Byte) (s : State) : Keeps s (flashDone data s) := by
  unfold flashDone
  split
  · exact Keeps.of_unread rfl rfl rfl rfl rfl rfl rfl rfl rfl
  · exact Keeps.of_unread rfl rfl rfl rfl rfl rfl rfl rfl rfl
  · exact Keeps.of_unread rfl rfl rfl rfl rfl rfl rfl rfl rfl
  · dsimp only
    split
    · exact Keeps.of_unread rfl rfl rfl rfl rfl rfl rfl rfl rfl
    · refine Keeps.trans ?_ (saveFails_keeps 2 _)
      exact Keeps.of_unread rfl rfl rfl rfl rfl rfl rfl rfl rfl
  · exact Keeps.refl s

theorem flashBusy_keeps (s : State) : Keeps s (flashBusy s) := by
  unfold flashBusy
  split
  · exact Keeps.refl s
  · exact saveFails_keeps 1 s
  · exact saveFails_keeps 1 s
  · refine Keeps.trans ?_ (saveFails_keeps 1 _)
    exact Keeps.of_unread rfl rfl rfl rfl rfl rfl rfl rfl rfl

/-! ## Every command -/

theorem discardFrame_keeps (st : Station) (s : State) : Keeps s (discardFrame st s) :=
  Keeps.station st s (by intro _; rfl) id

theorem discardFeedback_keeps (p : PortId) (s : State) : Keeps s (discardFeedback p s) :=
  Keeps.port p (by intro _; rfl) (by intro _; exact id) (by intro _; exact id) s

theorem feedbackFrame_keeps {p : PortId} {echo : Nat} {fb0 fb1 : Feedback}
    (h : execFeedbackFrame p echo fb0 fb1 s = .next t) : Keeps s t := by
  refine whileRunning_keeps ?_ h
  split
  · exact acceptFeedback_keeps p fb0 fb1 s
  · exact discardFeedback_keeps p s

theorem feedbackLost_keeps {p : PortId} (h : execFeedbackLost p s = .next t) : Keeps s t := by
  refine whileRunning_keeps ?_ h
  split
  · exact takeMiss_keeps p s
  · exact Keeps.refl s

theorem cutoff_keeps (h : execCutoff s = .next t) : Keeps s t := by
  refine whileRunning_keeps ?_ h
  split
  · exact (lowerCutOff_keeps s).trans (Keeps.forEach (cutOffFlyer_keeps _) _ _)
  · exact Keeps.refl s

theorem responseQueueFull_keeps {st : Station} {e : Bool} (h : execResponseQueueFull st e s = .next t) : Keeps s t := by
  refine whileRunning_keeps ?_ h
  split
  · exact (arrive_keeps st e s).trans (discardFrame_keeps st _)
  · exact Keeps.refl s

theorem silenceTimerExpiry_keeps {st : Station} (h : execSilenceTimerExpiry st s = .next t) : Keeps s t := by
  refine whileRunning_keeps ?_ h
  split
  · exact loseLink_keeps st s
  · exact Keeps.refl s

theorem countBrake_keeps (f : FlyerId) (s : State) (state : (s.flyer f).state = .releasing) : Keeps s (countBrake f s) :=
  (countBrake_gentle f s).keeps (CalmKept.of_not_calm (by rw [state]; rfl))

theorem countDwell_keeps (f : FlyerId) (s : State) (state : (s.flyer f).state = .cueRun .dwelling) :
    Keeps s (countDwell f s) :=
  (countDwell_gentle f s).keeps (CalmKept.of_not_calm (by rw [state]; rfl))

theorem ageJog_keeps (f : FlyerId) (s : State) : Keeps s (ageJog f s) := (ageJog_gentle f s).keeps (modRun_calm f _ s)

/-- The counts that run out, each an event by itself (R99, R104, R127). -/
theorem brakeTimeout_keeps {f : FlyerId} (h : execBrakeTimeout f s = .next t) : Keeps s t := by
  refine whileRunning_keeps ?_ h
  split
  · next state _ => exact (countBrake_keeps f s state).ite (Keeps.refl s)
  · exact Keeps.refl s

theorem dwellEnd_keeps {f : FlyerId} (h : execDwellEnd f s = .next t) : Keeps s t := by
  refine whileRunning_keeps ?_ h
  split
  · next state _ => exact (countDwell_keeps f s state).ite (Keeps.refl s)
  · exact Keeps.refl s

theorem jogValidityExpiry_keeps {f : FlyerId} (h : execJogValidityExpiry f s = .next t) : Keeps s t := by
  refine whileRunning_keeps ?_ h
  split
  · exact (ageJog_keeps f s).ite (Keeps.refl s)
  · exact (ageJog_keeps f s).ite (Keeps.refl s)
  · exact Keeps.refl s

theorem estopChain_keeps (h : execEstopChain s = .next t) : Keeps s t := by
  have opened : Keeps s { s with chainOpen := true } := Keeps.of_unread rfl rfl rfl rfl rfl rfl rfl rfl rfl
  unfold execEstopChain at h
  split_ifs at h
  · cases h
    exact Keeps.refl s
  · cases h
    exact (opened.trans (raiseAllStop_keeps _ _)).trans (finish_keeps _)
  · cases h
    exact opened

theorem warmReset_keeps (h : execWarmReset s = .next t) : Keeps s t := by
  unfold execWarmReset at h
  split at h
  · cases h
    exact poweredOn_keeps s
  · cases h
    exact warmed_keeps s
  · cases h
    exact warmed_keeps s

/-- Every command keeps every invariant. -/
theorem exec_keeps {c : Instr} (h : exec c s = .next t) : Keeps s t := by
  cases c with
  | readStatus q => exact takeRequest_keeps (fun s => Serves.refl s) h
  | readFlyer q n => exact takeRequest_keeps (fun s => by split <;> exact Serves.refl s) h
  | readAxis q n => exact takeRequest_keeps (fun s => by split <;> exact Serves.refl s) h
  | readZone q n => exact takeRequest_keeps (fun s => by split <;> exact Serves.refl s) h
  | readCue q n m => exact takeRequest_keeps (readCueBody_serves n m) h
  | readLog q n => exact takeRequest_keeps (readLogBody_serves n) h
  | readCounters q => exact takeRequest_keeps (fun s => Serves.refl s) h
  | claimFlyer q n => exact takeRequest_keeps (claimBody_serves q n) h
  | releaseFlyer q n => exact takeRequest_keeps (releaseBody_serves q n) h
  | setAxis q n p => exact takeRequest_keeps (setAxisBody_serves q n p) h
  | setFlyer q n d => exact takeRequest_keeps (setFlyerBody_serves q n d) h
  | clearFlyer q n => exact takeRequest_keeps (clearFlyerBody_serves q n) h
  | setFormation q n d => exact takeRequest_keeps (setFormationBody_serves q n d) h
  | clearFormation q n => exact takeRequest_keeps (clearFormationBody_serves q n) h
  | locate q n p => exact takeRequest_keeps (locateBody_serves q n p) h
  | setZone q n d => exact takeRequest_keeps (setZoneBody_serves n d) h
  | setSeparation q n => exact takeRequest_keeps (setSeparationBody_serves n) h
  | writeSlots q n i j => exact takeRequest_keeps (writeSlotsBody_serves n i j) h
  | swapSlots q n => exact takeRequest_keeps (swapSlotsBody_serves n) h
  | cueSegment q d => exact cueSegment_keeps h
  | deleteCue q n => exact takeRequest_keeps (deleteCueBody_serves n) h
  | startCue q n m => exact takeRequest_keeps (startCueBody_serves q n m) h
  | hold q n => exact takeRequest_keeps (fun s => motionRequest_serves fun off f => holdFlyer_serves f s off) h
  | resume q n => exact takeRequest_keeps (fun s => motionRequest_serves fun off f => resumeFlyer_serves f s off) h
  | go q n => exact takeRequest_keeps (fun s => motionRequest_serves fun off f => goFlyer_serves f s off) h
  | stopFlyer q n => exact takeRequest_keeps (fun s => motionRequest_serves fun off f => stopFlyerAt_serves f s off) h
  | jog q n v => exact takeRequest_keeps (fun s => motionRequest_serves fun off f => jogFlyer_serves v f s off) h
  | stopAll q => exact takeRequest_keeps (fun s => raiseAllStop_serves (stationStop q.st) s) h
  | releaseAllStop q => exact takeRequest_keeps releaseAllStopBody_serves h
  | raiseAlarm q n c f => exact takeRequest_keeps (raiseAlarmBody_serves q.st n c f) h
  | clearFault q n => exact takeRequest_keeps (clearFaultBody_serves q n) h
  | clearAxis q n => exact takeRequest_keeps (clearAxisBody_serves n) h
  | setLogMode q m => exact takeRequest_keeps (setLogModeBody_serves m) h
  | clearLog q => exact takeRequest_keeps clearLog_serves h
  | setTiming q n c => exact takeRequest_keeps (setTimingBody_serves n c) h
  | saveConfig q => exact takeRequest_keeps saveConfigBody_serves h
  | unknownRequest q c => exact unknownRequest_keeps h
  | stationFrameDiscarded st => exact whileRunning_keeps (discardFrame_keeps st s) h
  | responseQueueFull st e => exact responseQueueFull_keeps h
  | responseSent st => exact whileRunning_keeps (sendResponse_keeps st s) h
  | silenceTimerExpiry st => exact silenceTimerExpiry_keeps h
  | motionFrame => exact whileRunning_keeps (motionFrame_keeps s) h
  | feedbackFrame p e a b => exact feedbackFrame_keeps h
  | feedbackDiscarded p => exact whileRunning_keeps (discardFeedback_keeps p s) h
  | feedbackLost p => exact feedbackLost_keeps h
  | brakeTimeout f => exact brakeTimeout_keeps h
  | dwellEnd f => exact dwellEnd_keeps h
  | jogValidityExpiry f => exact jogValidityExpiry_keeps h
  | cutoff => exact cutoff_keeps h
  | estopChain => exact estopChain_keeps h
  | stopChainClosed =>
    cases h
    exact Keeps.of_unread rfl rfl rfl rfl rfl rfl rfl rfl rfl
  | powerOnReset =>
    cases h
    exact poweredOn_keeps s
  | warmReset => exact warmReset_keeps h
  | startUpEnd b => exact startUpEnd_keeps h
  | flashOperationDone d => exact whileRunning_keeps (flashDone_keeps d s) h
  | saveBusyTimeout => exact whileRunning_keeps (flashBusy_keeps s) h
  | showClockTick => exact whileRunning_keeps (clockTick_keeps s) h

/-- A step idles, or it is the command at the front of the queue on the rest of the queue. -/
theorem step_eq_next (h : step s = .next t) :
    t = s ∨ ∃ c rest, exec c { s with pending := rest } = .next t := by
  unfold step at h
  split at h
  · cases h
    exact .inl rfl
  · exact .inr ⟨_, _, h⟩

/-! ## The statements -/

/-- Settles O56: every command keeps the slot tables apart. -/
theorem everyStepKeepsAnAxisInOneSlot : Obligations.EveryStepKeepsAnAxisInOneSlot := by
  unfold Obligations.EveryStepKeepsAnAxisInOneSlot
  intro s t h taken
  obtain rfl | ⟨c, rest, taken⟩ := step_eq_next taken
  · exact h
  · exact (exec_keeps taken).slots h

/-- Settles O57: every command keeps the flyers calm under all-stop. -/
theorem everyStepKeepsAllStopCalm : Obligations.EveryStepKeepsAllStopCalm := by
  unfold Obligations.EveryStepKeepsAllStopCalm
  intro s t h taken
  obtain rfl | ⟨c, rest, taken⟩ := step_eq_next taken
  · exact h
  · exact (exec_keeps taken).calm h

/-- Settles O58: every command keeps the stores within their sizes. -/
theorem everyStepKeepsTheStoresBounded : Obligations.EveryStepKeepsTheStoresBounded := by
  unfold Obligations.EveryStepKeepsTheStoresBounded
  intro s t h taken
  obtain rfl | ⟨c, rest, taken⟩ := step_eq_next taken
  · exact h
  · exact (exec_keeps taken).stores h

/-- Settles O59: every command keeps the members and the formations apart. -/
theorem everyStepKeepsMembersApart : Obligations.EveryStepKeepsMembersApart := by
  unfold Obligations.EveryStepKeepsMembersApart
  intro s t h taken
  obtain rfl | ⟨c, rest, taken⟩ := step_eq_next taken
  · exact h
  · exact (exec_keeps taken).apart h

/-- Settles O60: every command keeps the reached cues present. -/
theorem everyStepKeepsReachedCues : Obligations.EveryStepKeepsReachedCues := by
  unfold Obligations.EveryStepKeepsReachedCues
  intro s t h taken
  obtain rfl | ⟨c, rest, taken⟩ := step_eq_next taken
  · exact h
  · exact (exec_keeps taken).reach h

theorem whileRunning_eq_next (s : State) (g : State → State) : ∃ t, whileRunning s g = .next t := by
  unfold whileRunning
  split
  · exact ⟨_, rfl⟩
  · exact ⟨_, rfl⟩

theorem takeRequest_eq_next (q : Req) (code : Nat) (body : State → State × Reply) (s : State) :
    ∃ t, takeRequest q code body s = .next t := whileRunning_eq_next s _

theorem exec_eq_next (c : Instr) (s : State) : ∃ t, exec c s = .next t := by
  cases c with
  | estopChain =>
    change ∃ t, execEstopChain s = .next t
    unfold execEstopChain
    split_ifs
    · exact ⟨_, rfl⟩
    · exact ⟨_, rfl⟩
    · exact ⟨_, rfl⟩
  | stopChainClosed => exact ⟨_, rfl⟩
  | powerOnReset => exact ⟨_, rfl⟩
  | warmReset =>
    change ∃ t, execWarmReset s = .next t
    unfold execWarmReset
    split
    · exact ⟨_, rfl⟩
    · exact ⟨_, rfl⟩
    · exact ⟨_, rfl⟩
  | startUpEnd b =>
    change ∃ t, execStartUpEnd b s = .next t
    unfold execStartUpEnd
    split
    · exact ⟨_, rfl⟩
    · exact ⟨_, rfl⟩
    · exact ⟨_, rfl⟩
  | cueSegment | unknownRequest | stationFrameDiscarded | responseQueueFull | responseSent | silenceTimerExpiry | motionFrame
  | feedbackFrame | feedbackDiscarded | feedbackLost | brakeTimeout | dwellEnd | jogValidityExpiry | cutoff
  | flashOperationDone | saveBusyTimeout | showClockTick =>
    dsimp only [exec, execCueSegment, execUnknownRequest, execStationFrameDiscarded, execResponseQueueFull,
      execResponseSent, execSilenceTimerExpiry, execMotionFrame, execFeedbackFrame, execFeedbackDiscarded,
      execFeedbackLost, execBrakeTimeout, execDwellEnd, execJogValidityExpiry, execCutoff, execFlashOperationDone,
      execSaveBusyTimeout, execShowClockTick]
    exact whileRunning_eq_next s _
  | _ => exact takeRequest_eq_next _ _ _ s

/-- Settles O1: the step's two branches. -/
theorem stepTakesTheFrontCommand : Obligations.StepTakesTheFrontCommand := by
  unfold Obligations.StepTakesTheFrontCommand
  refine ⟨fun _ _ _ => rfl, fun s idle => ?_⟩
  unfold step
  rw [idle]

/-- Settles O2: no command faults or is refused by the model, and none touches the queue. -/
theorem everyCommandAnswersANextState : Obligations.EveryCommandAnswersANextState := by
  unfold Obligations.EveryCommandAnswersANextState
  intro c s
  obtain ⟨t, taken⟩ := exec_eq_next c s
  exact ⟨t, taken, (exec_keeps taken).pending⟩

/-- Settles O54: the reset state meets each invariant. -/
theorem resetMeetsEveryInvariant : Obligations.ResetMeetsEveryInvariant := by
  unfold Obligations.ResetMeetsEveryInvariant
  have settled : Settled State.reset :=
    settled_of_quiet rfl rfl (fun f => by rw [flyer_reset]; exact nofun) fun f => by
      rw [State.grant, State.reset]
      exact congrArg Grant.mark (Vector.getElem_replicate f.isLt)
  exact ⟨settled, slotsApart_reset, allStopCalm_reset, bounded_reset, storeSound_reset, membersApart_reset,
    formationsSound_reset, reachPresent_reset⟩

end Sys2Proof.Machine
end

section
/-! The meaning of each station request as the body that decides it (R176, R177). -/

namespace Sys2Proof.Machine

variable (q : Req) (n m : Nat) (s : State)

theorem exec_readStatus : exec (.readStatus q) s = takeRequest q 0x01 (fun t => report (.status (statusView t)) t) s := rfl

theorem exec_readFlyer :
    exec (.readFlyer q n) s = takeRequest q 0x02 (fun t =>
      match flyerNamed n with
      | none => refuse .badValue [] t
      | some f => report (.flyer (flyerView t f)) t) s := rfl

theorem exec_readAxis :
    exec (.readAxis q n) s = takeRequest q 0x03 (fun t =>
      match axisNamed n with
      | none => refuse .badValue [] t
      | some a => report (.axis (axisView t a)) t) s := rfl

theorem exec_readZone :
    exec (.readZone q n) s = takeRequest q 0x04 (fun t =>
      match zoneNamed n with
      | none => refuse .badValue [] t
      | some z => report (.zone (t.zone z)) t) s := rfl

theorem exec_readCue : exec (.readCue q n m) s = takeRequest q 0x05 (readCueBody n m) s := rfl

theorem exec_readLog : exec (.readLog q n) s = takeRequest q 0x06 (readLogBody n) s := rfl

theorem exec_readCounters :
    exec (.readCounters q) s = takeRequest q 0x07 (fun t => report (.counters (countersView t)) t) s := rfl

theorem exec_setAxis (p : AxisParams) : exec (.setAxis q n p) s = takeRequest q 0x20 (setAxisBody q n p) s := rfl

theorem exec_setFlyer (d : FlyerFields) : exec (.setFlyer q n d) s = takeRequest q 0x21 (setFlyerBody q n d) s := rfl

theorem exec_setFormation (d : FormationFields) :
    exec (.setFormation q n d) s = takeRequest q 0x23 (setFormationBody q n d) s := rfl

theorem exec_clearFormation : exec (.clearFormation q n) s = takeRequest q 0x24 (clearFormationBody q n) s := rfl

theorem exec_locate (p : Vec3) : exec (.locate q n p) s = takeRequest q 0x25 (locateBody q n p) s := rfl

theorem exec_setZone (d : ZoneFields) : exec (.setZone q n d) s = takeRequest q 0x28 (setZoneBody n d) s := rfl

theorem exec_setSeparation : exec (.setSeparation q n) s = takeRequest q 0x29 (setSeparationBody n) s := rfl

theorem exec_writeSlots (k : Nat) : exec (.writeSlots q n m k) s = takeRequest q 0x2C (writeSlotsBody n m k) s := rfl

theorem exec_swapSlots : exec (.swapSlots q n) s = takeRequest q 0x2D (swapSlotsBody n) s := rfl

theorem exec_cueSegment (d : SegmentFields) :
    exec (.cueSegment q d) s = whileRunning s fun t =>
      serve q 0x30 (refuseSegment q.st .badFrame []) (cueSegmentBody q.st d) (arrive q.st q.enable t) := rfl

theorem exec_startCue : exec (.startCue q n m) s = takeRequest q 0x40 (startCueBody q n m) s := rfl

theorem exec_hold : exec (.hold q n) s = takeRequest q 0x41 (motionRequest q false n holdFlyer) s := rfl

theorem exec_resume : exec (.resume q n) s = takeRequest q 0x42 (motionRequest q true n resumeFlyer) s := rfl

theorem exec_go : exec (.go q n) s = takeRequest q 0x43 (motionRequest q true n goFlyer) s := rfl

theorem exec_stopFlyer : exec (.stopFlyer q n) s = takeRequest q 0x44 (motionRequest q false n stopFlyerAt) s := rfl

theorem exec_jog (v : Vec3) : exec (.jog q n v) s = takeRequest q 0x45 (motionRequest q true n (jogFlyer v)) s := rfl

theorem exec_stopAll : exec (.stopAll q) s = takeRequest q 0x50 (fun t => done (raiseAllStop (stationStop q.st) t)) s := rfl

theorem exec_releaseAllStop : exec (.releaseAllStop q) s = takeRequest q 0x51 releaseAllStopBody s := rfl

theorem exec_setTiming : exec (.setTiming q n m) s = takeRequest q 0x57 (setTimingBody n m) s := rfl

theorem exec_saveConfig : exec (.saveConfig q) s = takeRequest q 0x60 saveConfigBody s := rfl

theorem exec_unknownRequest :
    exec (.unknownRequest q n) s = whileRunning s fun t =>
      serve q n (refuse .unknown []) (refuse .unknown []) (arrive q.st q.enable t) := rfl

variable {q n m s} {c : Instr} {code : Nat}

/-- Every request but CUE_SEGMENT and an unknown one is taken in one way. -/
theorem exec_eq_takeRequest (request : asRequest c = some (q, code)) (notSegment : ∀ seg, c ≠ .cueSegment q seg)
    (known : c ≠ .unknownRequest q code) (s : State) : ∃ body, exec c s = takeRequest q code body s := by
  cases c with
  | cueSegment q d =>
    cases request
    exact absurd rfl (notSegment d)
  | unknownRequest q k =>
    cases request
    exact absurd rfl known
  | stationFrameDiscarded | responseQueueFull | responseSent | silenceTimerExpiry | motionFrame | feedbackFrame
  | feedbackDiscarded | feedbackLost | brakeTimeout | dwellEnd | jogValidityExpiry | cutoff | estopChain
  | stopChainClosed | powerOnReset | warmReset | startUpEnd | flashOperationDone | saveBusyTimeout | showClockTick =>
    cases request
  | _ =>
    cases request
    exact ⟨_, rfl⟩

end Sys2Proof.Machine
end

section
/-! The requests that no block decides, the answers and the end of an event, and the events of the links (R169, R175 to
R177, R180, R185, R190, R193). -/

namespace Sys2Proof.Machine

variable {s t : State} {q : Req} {c : Instr} {code : Nat} {st : Station} {f : FlyerId}

/-! ## The machine's own events -/

theorem whileRunning_of_running (runs : running s = true) (g : State → State) :
    whileRunning s g = .next (finish (g s)) := if_pos runs

/-! ## Requests that are not served (R67, R176, R177) -/

theorem serve_of_full {misfit body : State → State × Reply} (full : Config.queuePlaces ≤ (s.station q.st).queue.length) :
    serve q code misfit body s = discardFrame q.st s := if_pos full

theorem serve_of_room {misfit body : State → State × Reply} (room : (s.station q.st).queue.length < Config.queuePlaces) :
    serve q code misfit body s =
      let out := (if q.fits then body else misfit) (modStation q.st (fun p => { p with good := p.good + 1 }) s)
      answer q code out.2 out.1 := by
  unfold serve
  rw [if_neg room.not_ge]
  cases q.fits <;> rfl

/-- What a request finds when it is taken or, with a full queue, is not. -/
theorem served_of_full (runs : running s = true) (full : 4 ≤ (s.station q.st).queue.length)
    {misfit body : State → State × Reply} :
    whileRunning s (fun t => serve q code misfit body (arrive q.st q.enable t)) =
      .next (finish (discardFrame q.st (arrive q.st q.enable s))) := by
  rw [whileRunning_of_running runs, serve_of_full (by rw [queue_station_arrive]; exact full)]

theorem served_of_room (runs : running s = true) (room : (s.station q.st).queue.length < 4)
    {misfit body : State → State × Reply} {r : Reply} {v : State}
    (decided : (if q.fits then body else misfit) (arrived q s) = (v, r)) :
    whileRunning s (fun t => serve q code misfit body (arrive q.st q.enable t)) = .next (finish (answer q code r v)) := by
  rw [whileRunning_of_running runs, serve_of_room (by rw [queue_station_arrive]; exact room)]
  simp only [arrived] at decided
  simp only [decided]

/-- Every request is served with a body and an answer to a misfit. -/
theorem exec_eq_serve (request : asRequest c = some (q, code)) (s : State) :
    ∃ misfit body, exec c s = whileRunning s fun t => serve q code misfit body (arrive q.st q.enable t) := by
  by_cases segment : ∃ seg, c = .cueSegment q seg
  · obtain ⟨seg, rfl⟩ := segment
    cases request
    exact ⟨_, _, exec_cueSegment q s seg⟩
  · by_cases unknown : c = .unknownRequest q code
    · subst unknown
      exact ⟨_, _, exec_unknownRequest q code s⟩
    · obtain ⟨body, taken⟩ := exec_eq_takeRequest request (fun seg e => segment ⟨seg, e⟩) unknown s
      exact ⟨_, body, taken⟩

theorem exec_responseQueueFull (runs : running s = true) (enable : Bool) (full : 4 ≤ (s.station st).queue.length) :
    exec (.responseQueueFull st enable) s = .next (finish (discardFrame st (arrive st enable s))) := by
  change execResponseQueueFull st enable s = _
  unfold execResponseQueueFull
  rw [whileRunning_of_running runs, if_pos (show Config.queuePlaces ≤ _ from full)]

/-- Settles O5: the branches of `serve`, for each shape of request. -/
theorem requestsThatAreNotServed : Obligations.RequestsThatAreNotServed := by
  unfold Obligations.RequestsThatAreNotServed
  intro c q code s request runs
  refine ⟨fun full => ?_, fun room => ⟨?_, ?_, ?_⟩⟩
  · obtain ⟨misfit, body, meaning⟩ := exec_eq_serve request s
    rw [meaning, served_of_full runs full]
    exact ⟨rfl, exec_responseQueueFull runs q.enable full⟩
  · rintro rfl
    refine (exec_unknownRequest q code s).trans (served_of_room runs room ?_)
    rw [ite_self]
    rfl
  · intro unfit notSegment known
    obtain ⟨body, meaning⟩ := exec_eq_takeRequest request notSegment known s
    refine meaning.trans (served_of_room runs room ?_)
    rw [unfit]
    rfl
  · rintro unfit seg rfl
    cases request
    refine (exec_cueSegment q s seg).trans (served_of_room runs room ?_)
    rw [unfit]
    rfl

/-! ## Answers and the end of an event (R169, R177, R180, R185) -/

theorem isRefusal_iff (r : ResultCode) : r.isRefusal = false ↔ r = .done ∨ r = .accepted := by
  cases r <;> decide

theorem grant_forEach_settleGrant (l : List FlyerId) (s : State) (f : FlyerId) :
    (forEach l settleGrant s).grant f =
      if f ∈ l ∧ (s.grant f).mark = true ∧ allRestForGrants s f = true then Grant.initial else s.grant f := by
  induction l generalizing s with
  | nil => rw [forEach_nil, if_neg fun h => List.not_mem_nil h.1]
  | cons g l ih =>
    rw [forEach_cons, ih, grant_settleGrant, allRestForGrants_settleGrant]
    by_cases same : g = f
    · subst same
      by_cases free : (s.grant g).mark = true ∧ allRestForGrants s g = true
      · simp [free]
      · simp [free]
    · simp [same, Ne.symm same]

theorem grant_finish (s : State) (f : FlyerId) :
    (finish s).grant f =
      if (s.grant f).mark = true ∧ allRestForGrants s f = true then Grant.initial else s.grant f := by
  refine (grant_forEach_settleGrant allFlyers s f).trans ?_
  simp only [mem_allFlyers, true_and]

theorem alarmLine_eq_true_iff : alarmLine s = true ↔ s.allStop ≠ none ∨ ∃ f, (s.flyer f).state = .faulted := by
  rw [← Bool.not_eq_false, alarmLine_eq_false_iff]
  simp only [not_and_or, not_forall, not_not, ne_eq]

/-- Settles O7: `answer` and `finish` written out. -/
theorem answersAndTheEndOfEveryEvent : Obligations.AnswersAndTheEndOfEveryEvent := by
  unfold Obligations.AnswersAndTheEndOfEveryEvent
  refine ⟨fun q code r s => ?_, fun s => ⟨?_, ?_, grant_finish s⟩⟩
  · unfold answer modStation
    congr 2
    cases refusal : r.result.isRefusal
    · rw [if_pos ((isRefusal_iff _).mp refusal)]
      rfl
    · rw [if_neg fun taken => by simp [(isRefusal_iff _).mpr taken] at refusal]
      rfl
  · obtain ⟨G, shape⟩ := finish_shape s
    rw [shape]
  · have line : (finish s).alarm = alarmLine (finish s) := (settled_finish s).1
    rw [line]
    exact alarmLine_eq_true_iff

/-! ## Events of the links (R140, R175 to R177, R193) -/

theorem sendResponse_of_cons {r : Response} {rest : List Response} (queue : (s.station st).queue = r :: rest) :
    sendResponse st s = modStation st (fun p => { p with queue := rest, line := Response.frame r }) s := by
  simp only [sendResponse, modStation, queue]

theorem ageTimer_of_running (runs : (s.station st).silence ≠ some 0) :
    ageTimer st s = modStation st (fun p => { p with silence := p.silence.map fun n => n - 1 }) s := by
  unfold ageTimer modStation
  cases timer : (s.station st).silence with
  | none =>
    have same : ({ s.station st with silence := none } : StationPort) = s.station st := by rw [← timer]
    simp only [timer, Option.map_none, same]
    cases st <;> rfl
  | some n =>
    cases n with
    | zero => exact absurd timer runs
    | succ n => simp only [timer, Option.map_some, Nat.add_sub_cancel]

theorem clockTick_of_running (runs : ∀ st, (s.station st).silence ≠ some 0) :
    clockTick s =
      { s with
        clock := s.clock + 1
        stationA := { s.stationA with silence := s.stationA.silence.map fun n => n - 1 }
        stationB := { s.stationB with silence := s.stationB.silence.map fun n => n - 1 } } := by
  have timerB (g : StationPort → StationPort) : ((modStation .a g s).station .b).silence ≠ some 0 := runs .b
  unfold clockTick
  rw [ageTimer_of_running (runs .a), ageTimer_of_running (timerB _)]
  rfl

/-- Settles O6: each event's one change. -/
theorem linkEventsChangeOnlyTheirOwnState : Obligations.LinkEventsChangeOnlyTheirOwnState := by
  unfold Obligations.LinkEventsChangeOnlyTheirOwnState
  intro s runs
  refine ⟨fun st => ?_, fun p => ?_, fun st r rest queue => ?_, fun timers => ?_⟩
  · exact whileRunning_of_running runs (discardFrame st)
  · exact whileRunning_of_running runs (discardFeedback p)
  · rw [← sendResponse_of_cons queue]
    exact whileRunning_of_running runs (sendResponse st)
  · rw [← clockTick_of_running timers]
    exact whileRunning_of_running runs clockTick

end Sys2Proof.Machine
end

section
/-! The rules of the operations that flyers share: a state given, members released, a run ended, for the flyers concerned
and, in the sequences over every flyer, for each by itself (R26, R34, R45, R107, R163, R178). -/

namespace Sys2Proof.Machine

variable {s t u v : State} {f g h : FlyerId} {a : AxisId} {fs : List FlyerId}

/-! ## Frames -/

/-- Nothing but axes and flyers differs. -/
def RigOnly (s t : State) : Prop := ∃ A F, t = { s with axes := A, flyers := F }

theorem RigOnly.refl (s : State) : RigOnly s s := ⟨s.axes, s.flyers, rfl⟩

theorem RigOnly.trans (first : RigOnly s t) (second : RigOnly t u) : RigOnly s u := by
  obtain ⟨_, _, rfl⟩ := first
  obtain ⟨A, F, rfl⟩ := second
  exact ⟨A, F, rfl⟩

theorem RigOnly.forEach {α : Type} {op : α → State → State} (each : ∀ x s, RigOnly s (op x s)) (l : List α) (s : State) :
    RigOnly s (forEach l op s) :=
  forEach_rel RigOnly RigOnly.refl (fun _ _ _ => RigOnly.trans) op l (fun x _ => each x) s

theorem RigOnly.ite {c : Prop} [Decidable c] (first : RigOnly s t) (second : RigOnly s u) :
    RigOnly s (if c then t else u) := by
  split <;> assumption

theorem modFlyer_rigOnly (f : FlyerId) (k : Flyer → Flyer) (s : State) : RigOnly s (modFlyer f k s) := ⟨_, _, rfl⟩

theorem modAxis_rigOnly (a : AxisId) (k : Axis → Axis) (s : State) : RigOnly s (modAxis a k s) := ⟨_, _, rfl⟩

/-- Nothing but flyers differs. -/
def FlyersOnly (s t : State) : Prop := ∃ F, t = { s with flyers := F }

theorem FlyersOnly.refl (s : State) : FlyersOnly s s := ⟨s.flyers, rfl⟩

theorem FlyersOnly.trans (first : FlyersOnly s t) (second : FlyersOnly t u) : FlyersOnly s u := by
  obtain ⟨_, rfl⟩ := first
  obtain ⟨F, rfl⟩ := second
  exact ⟨F, rfl⟩

theorem FlyersOnly.forEach {α : Type} {op : α → State → State} (each : ∀ x s, FlyersOnly s (op x s)) (l : List α)
    (s : State) : FlyersOnly s (forEach l op s) :=
  forEach_rel FlyersOnly FlyersOnly.refl (fun _ _ _ => FlyersOnly.trans) op l (fun x _ => each x) s

theorem FlyersOnly.rigOnly (only : FlyersOnly s t) : RigOnly s t := by
  obtain ⟨F, rfl⟩ := only
  exact ⟨s.axes, F, rfl⟩

theorem FlyersOnly.axis (only : FlyersOnly s t) (a : AxisId) : t.axis a = s.axis a := by
  obtain ⟨F, rfl⟩ := only
  rfl

theorem modFlyer_flyersOnly (f : FlyerId) (k : Flyer → Flyer) (s : State) : FlyersOnly s (modFlyer f k s) := ⟨_, rfl⟩

/-- Two states of one frame with the same flyers are one. -/
theorem FlyersOnly.eq_of_flyer (first : FlyersOnly s t) (second : FlyersOnly s u) (same : ∀ g, t.flyer g = u.flyer g) :
    t = u := by
  obtain ⟨F, rfl⟩ := first
  obtain ⟨G, rfl⟩ := second
  have : F = G := Vector.ext fun i hi => same ⟨i, hi⟩
  rw [this]

/-- Formations are read off the formation records alone. -/
theorem RigOnly.concerned (only : RigOnly s t) (f : FlyerId) : concerned t f = concerned s f := by
  obtain ⟨A, F, rfl⟩ := only
  rfl

theorem RigOnly.concernedFlyers (only : RigOnly s t) (f : FlyerId) : concernedFlyers t f = concernedFlyers s f := by
  rw [Machine.concernedFlyers, only.concerned]
  rfl

/-! ## Members released (R26) -/

theorem disengageAxis_idem (x : Axis) : disengageAxis (disengageAxis x) = disengageAxis x := by
  by_cases engaged : x.state = .engaged
  · simp [disengageAxis, engaged]
  · simp [disengageAxis, engaged]

/-- Every axis of which a property holds leaves ENGAGED, and every other stands. -/
def Releases (p : AxisId → Prop) (s t : State) : Prop :=
  ∀ a, (p a → t.axis a = disengageAxis (s.axis a)) ∧ (¬p a → t.axis a = s.axis a)

theorem Releases.axis {p : AxisId → Prop} (releases : Releases p s t) (a : AxisId) [Decidable (p a)] :
    t.axis a =
      if (s.axis a).state = .engaged ∧ p a then { s.axis a with state := .ready, committed := none } else s.axis a := by
  by_cases released : p a
  · rw [(releases a).1 released]
    simp only [released, and_true]
    rfl
  · rw [(releases a).2 released, if_neg fun both => released both.2]

theorem Releases.trans {p q : AxisId → Prop} (first : Releases p s t) (second : Releases q t u) :
    Releases (fun a => p a ∨ q a) s u := by
  intro a
  by_cases hp : p a <;> by_cases hq : q a
  · refine ⟨fun _ => ?_, fun none => absurd (.inl hp) none⟩
    rw [(second a).1 hq, (first a).1 hp, disengageAxis_idem]
  · refine ⟨fun _ => ?_, fun none => absurd (.inl hp) none⟩
    rw [(second a).2 hq, (first a).1 hp]
  · refine ⟨fun _ => ?_, fun none => absurd (.inr hq) none⟩
    rw [(second a).1 hq, (first a).2 hp]
  · refine ⟨fun both => absurd both (not_or_intro hp hq), fun _ => ?_⟩
    rw [(second a).2 hq, (first a).2 hp]

theorem Releases.congr {p q : AxisId → Prop} (releases : Releases p s t) (same : ∀ a, p a ↔ q a) : Releases q s t :=
  fun a => ⟨fun hq => (releases a).1 ((same a).mpr hq), fun hq => (releases a).2 fun hp => hq ((same a).mp hp)⟩

theorem Releases.of_axes (same : ∀ a, t.axis a = s.axis a) : Releases (fun _ => False) s t :=
  fun a => ⟨False.elim, fun _ => same a⟩

theorem axis_forEach_modAxis_idem {k : Axis → Axis} (idem : ∀ x, k (k x) = k x) (l : List AxisId) (s : State)
    (a : AxisId) : (forEach l (fun b => modAxis b k) s).axis a = if a ∈ l then k (s.axis a) else s.axis a := by
  induction l generalizing s with
  | nil => rfl
  | cons b l ih =>
    rw [forEach_cons, ih, axis_modAxis]
    by_cases here : b = a
    · subst here
      simp only [if_true, List.mem_cons_self, idem, ite_self]
    · simp only [if_neg here, List.mem_cons, Ne.symm here, false_or]

theorem disengage_releases (f : FlyerId) (s : State) : Releases (fun a => a ∈ membersOf s f) s (disengage f s) := by
  intro a
  have axis := axis_forEach_modAxis_idem disengageAxis_idem (membersOf s f) s a
  exact ⟨fun member => axis.trans (if_pos member), fun other => axis.trans (if_neg other)⟩

theorem disengage_rigOnly (f : FlyerId) (s : State) : RigOnly s (disengage f s) :=
  RigOnly.forEach (fun a s => modAxis_rigOnly a disengageAxis s) _ s

/-! ## One change for each flyer of a list -/

theorem flyer_forEach_modFlyer_idem {k : Flyer → Flyer} (idem : ∀ x, k (k x) = k x) (l : List FlyerId) (s : State)
    (g : FlyerId) : (forEach l (fun h => modFlyer h k) s).flyer g = if g ∈ l then k (s.flyer g) else s.flyer g := by
  induction l generalizing s with
  | nil => rfl
  | cons h l ih =>
    rw [forEach_cons, ih, flyer_modFlyer]
    by_cases here : h = g
    · subst here
      simp only [if_true, List.mem_cons_self, idem, ite_self]
    · simp only [if_neg here, List.mem_cons, Ne.symm here, false_or]

theorem flyer_forEach_modFlyer_nodup {l : List FlyerId} (nodup : l.Nodup) (k : FlyerId → Flyer → Flyer) (s : State)
    (g : FlyerId) : (forEach l (fun h => modFlyer h (k h)) s).flyer g = if g ∈ l then k g (s.flyer g) else s.flyer g := by
  split
  · next mem => exact flyer_forEach_modFlyer id k l s (by rwa [List.map_id]) g mem
  · next outside => exact flyer_forEach_modFlyer_of_notMem id k g l s (by rwa [List.map_id])

/-- Flyers changed one by one, each released by what stands in its own record: each is changed once, and the members
released are those of the flyers that release. -/
theorem forEach_each {op : FlyerId → State → State} (k : FlyerId → Flyer → Flyer) (leaves : Flyer → Prop)
    (flyer : ∀ f s g, (op f s).flyer g = if g = f then k f (s.flyer f) else s.flyer g)
    (defn : ∀ f x, (k f x).defn = x.defn)
    (axes : ∀ f s, Releases (fun a => a ∈ membersOf s f ∧ leaves (s.flyer f)) s (op f s))
    {l : List FlyerId} (nodup : l.Nodup) (s : State) :
    (∀ g, (forEach l op s).flyer g = if g ∈ l then k g (s.flyer g) else s.flyer g) ∧
      Releases (fun a => ∃ f ∈ l, a ∈ membersOf s f ∧ leaves (s.flyer f)) s (forEach l op s) := by
  induction l generalizing s with
  | nil => exact ⟨fun _ => rfl, (Releases.of_axes fun _ => rfl).congr (by simp)⟩
  | cons f l ih =>
    obtain ⟨once, nodup⟩ := List.nodup_cons.mp nodup
    obtain ⟨flyers, released⟩ := ih nodup (op f s)
    have apart (g : FlyerId) (mem : g ∈ l) : g ≠ f := fun same => once (same ▸ mem)
    have members (g : FlyerId) : membersOf (op f s) g = membersOf s g := by
      refine membersOf_of_defn ?_
      rw [flyer]
      split
      · next same => rw [same, defn]
      · rfl
    constructor
    · intro g
      rw [forEach_cons, flyers, flyer]
      by_cases same : g = f
      · subst same
        rw [if_neg once, if_pos rfl, if_pos List.mem_cons_self]
      · simp only [List.mem_cons, same, false_or, if_false]
    · refine ((axes f s).trans released).congr fun a => ?_
      simp only [List.mem_cons, exists_eq_or_imp, members]
      refine or_congr_right (exists_congr fun g => and_congr_right fun mem => and_congr_right fun _ => ?_)
      rw [flyer, if_neg (apart g mem)]

theorem flyer_modFlyer_eq (f : FlyerId) (k : Flyer → Flyer) (s : State) (g : FlyerId) :
    (modFlyer f k s).flyer g = if g = f then k (s.flyer f) else s.flyer g := by
  rw [flyer_modFlyer]
  by_cases same : g = f
  · subst same
    rw [if_pos rfl]
  · rw [if_neg same, if_neg (Ne.symm same)]

/-! ## States given and runs ended (R26, R34, R45, R107) -/

theorem setStates_flyersOnly (fs : List FlyerId) (st : FlyerState) (s : State) : FlyersOnly s (setStates fs st s) :=
  FlyersOnly.forEach (fun g s => modFlyer_flyersOnly g (fun x => { x with state := st }) s) fs s

theorem flyer_setStates (fs : List FlyerId) (st : FlyerState) (s : State) (g : FlyerId) :
    (setStates fs st s).flyer g = if g ∈ fs then { s.flyer g with state := st } else s.flyer g :=
  flyer_forEach_modFlyer_idem (k := fun x => { x with state := st }) (by intro _; rfl) fs s g

theorem leaveRun_rigOnly (f : FlyerId) (st : FlyerState) (s : State) : RigOnly s (leaveRun f st s) :=
  RigOnly.forEach (fun g s => (modFlyer_rigOnly g _ s).trans (disengage_rigOnly g _)) _ s

/-- One flyer's run ends. -/
def endRunOf (st : FlyerState) (g : FlyerId) (s : State) : State :=
  disengage g (modFlyer g (fun x => { x with state := st, run := none }) s)

theorem forEach_endRunOf (st : FlyerState) (l : List FlyerId) (s : State) :
    (∀ g, (forEach l (endRunOf st) s).flyer g =
        if g ∈ l then { s.flyer g with state := st, run := none } else s.flyer g) ∧
      Releases (fun a => ∃ g ∈ l, a ∈ membersOf s g) s (forEach l (endRunOf st) s) := by
  induction l generalizing s with
  | nil => exact ⟨fun _ => rfl, (Releases.of_axes fun _ => rfl).congr (by simp)⟩
  | cons f l ih =>
    obtain ⟨flyers, released⟩ := ih (endRunOf st f s)
    have flyer (g : FlyerId) : (endRunOf st f s).flyer g =
        if f = g then { s.flyer g with state := st, run := none } else s.flyer g := by
      rw [endRunOf, flyer_disengage, flyer_modFlyer]
    have members (g : FlyerId) : membersOf (endRunOf st f s) g = membersOf s g := by
      refine membersOf_of_defn ?_
      rw [flyer]
      split <;> rfl
    have first : Releases (fun a => a ∈ membersOf s f) s (endRunOf st f s) :=
      (disengage_releases f (modFlyer f (fun x => { x with state := st, run := none }) s)).congr fun a => by
        rw [membersOf_of_defn ((modFlyer_tame f (fun x => { x with state := st, run := none }) (by intro _; rfl) s).defn f)]
    constructor
    · intro g
      rw [forEach_cons, flyers, flyer]
      by_cases same : f = g
      · subst same
        simp
      · simp only [List.mem_cons, Ne.symm same, false_or, if_neg same]
    · refine (first.trans released).congr fun a => ?_
      simp only [List.mem_cons, exists_eq_or_imp, members]

theorem flyer_leaveRun (f : FlyerId) (st : FlyerState) (s : State) (g : FlyerId) :
    (leaveRun f st s).flyer g =
      if g ∈ concernedFlyers s f then { s.flyer g with state := st, run := none } else s.flyer g :=
  (forEach_endRunOf st (concernedFlyers s f) s).1 g

theorem leaveRun_releases (f : FlyerId) (st : FlyerState) (s : State) :
    Releases (fun a => ∃ g ∈ concernedFlyers s f, a ∈ membersOf s g) s (leaveRun f st s) :=
  (forEach_endRunOf st (concernedFlyers s f) s).2

theorem modRun_flyersOnly (f : FlyerId) (k : Run → Run) (s : State) : FlyersOnly s (modRun f k s) :=
  modFlyer_flyersOnly f _ s

theorem flyer_modRun (f : FlyerId) (k : Run → Run) (s : State) (g : FlyerId) :
    (modRun f k s).flyer g = if g = f then { s.flyer g with run := (s.flyer g).run.map k } else s.flyer g := by
  rw [modRun, flyer_modFlyer]
  by_cases same : f = g
  · subst same
    rw [if_pos rfl]
  · rw [if_neg same, if_neg (Ne.symm same)]

/-! ## All-stop (R162, R163) -/

theorem firstCause_eq (x : Flyer) (c : Cause) : firstCause x c = x.cause.or (some c) := by
  unfold firstCause
  cases x.cause <;> rfl

/-- What the activation of all-stop makes of a flyer (R163). -/
def stoppedBy (c : Cause) (x : Flyer) : Flyer :=
  match x.state with
  | .releasing | .held _ =>
    { x with state := .faulted, run := none, cause := x.cause.or (some c), point := if x.located then x.point else none }
  | .cueRun _ | .holding | .jogging | .stopping _ =>
    { x with state := .stopping .allStop, cause := x.cause.or (some c) }
  | .undefined | .unready | .unlocated | .parked | .faulted => x

/-- The states that all-stop ends with the members released (R163). -/
def FlyerState.endsAtRest : FlyerState → Bool
  | .releasing | .held _ => true
  | _ => false

theorem flyer_faultAtRest (f : FlyerId) (c : Cause) (s : State) (g : FlyerId) :
    (faultAtRest f c s).flyer g =
      if g = f then
        { s.flyer f with
          state := .faulted, run := none, cause := (s.flyer f).cause.or (some c)
          point := if (s.flyer f).located then (s.flyer f).point else none }
      else s.flyer g := by
  rw [faultAtRest, flyer_disengage, flyer_modFlyer, firstCause_eq]
  by_cases same : g = f
  · subst same
    rw [if_pos rfl]
  · rw [if_neg same, if_neg (Ne.symm same)]

theorem faultAtRest_releases (f : FlyerId) (c : Cause) (s : State) :
    Releases (fun a => a ∈ membersOf s f) s (faultAtRest f c s) := by
  refine Releases.congr (disengage_releases f _) fun a => ?_
  rw [membersOf_of_defn ((modFlyer_tame f (fun x => { x with
    state := .faulted, run := none, cause := firstCause x c, point := if x.located then x.point else none })
    (by intro _; rfl) s).defn f)]

theorem flyer_allStopFlyer (c : Cause) (f : FlyerId) (s : State) (g : FlyerId) :
    (allStopFlyer c f s).flyer g = if g = f then stoppedBy c (s.flyer f) else s.flyer g := by
  have stays : s.flyer g = if g = f then s.flyer f else s.flyer g := by
    split
    · next same => rw [same]
    · rfl
  unfold allStopFlyer stoppedBy
  cases (s.flyer f).state with
  | releasing | held => exact flyer_faultAtRest f c s g
  | cueRun | holding | jogging | stopping =>
    dsimp only
    rw [flyer_modFlyer_eq, firstCause_eq]
  | undefined | unready | unlocated | parked | faulted => exact stays

theorem allStopFlyer_releases (c : Cause) (f : FlyerId) (s : State) :
    Releases (fun a => a ∈ membersOf s f ∧ (s.flyer f).state.endsAtRest = true) s (allStopFlyer c f s) := by
  unfold allStopFlyer
  cases (s.flyer f).state with
  | releasing | held => exact (faultAtRest_releases f c s).congr fun a => (and_iff_left rfl).symm
  | undefined | unready | unlocated | parked | faulted | cueRun | holding | jogging | stopping =>
    exact (Releases.of_axes fun _ => rfl).congr fun a => by simp [FlyerState.endsAtRest]

theorem allStopFlyer_rigOnly (c : Cause) (f : FlyerId) (s : State) : RigOnly s (allStopFlyer c f s) := by
  unfold allStopFlyer
  cases (s.flyer f).state with
  | releasing | held => exact (modFlyer_rigOnly f _ s).trans (disengage_rigOnly f _)
  | cueRun | holding | jogging | stopping => exact modFlyer_rigOnly f _ s
  | undefined | unready | unlocated | parked | faulted => exact RigOnly.refl s

theorem nodup_allFlyers : allFlyers.Nodup := by decide

theorem raiseAllStop_of_active {c : Cause} (active : s.allStop ≠ none) :
    raiseAllStop c s = logCause c .allStop none s := by
  unfold raiseAllStop
  obtain ⟨d, stands⟩ := Option.ne_none_iff_exists'.mp active
  have logged : (logCause c .allStop none s).allStop = some d := stands
  simp only [logged]

theorem raiseAllStop_of_inactive {c : Cause} (inactive : s.allStop = none) :
    raiseAllStop c s =
      forEach allFlyers (allStopFlyer c)
        { logCause c .allStop none s with allStop := some c, cutCount := frames s.cutoff s.t } := by
  unfold raiseAllStop
  have logged : (logCause c .allStop none s).allStop = none := inactive
  simp only [logged]
  rfl

/-- Settles O34: the log entry, then each flyer by itself. -/
theorem allStopActsOnEveryFlyer : Obligations.AllStopActsOnEveryFlyer := by
  unfold Obligations.AllStopActsOnEveryFlyer
  intro c s
  by_cases inactive : s.allStop = none
  · let w : State := { logCause c .allStop none s with allStop := some c, cutCount := frames s.cutoff s.t }
    obtain ⟨flyers, released⟩ := forEach_each (op := allStopFlyer c) (fun _ => stoppedBy c)
      (fun x => x.state.endsAtRest = true) (flyer_allStopFlyer c)
      (fun f x => by unfold stoppedBy; split <;> rfl) (allStopFlyer_releases c) nodup_allFlyers w
    obtain ⟨A, F, shape⟩ := RigOnly.forEach (allStopFlyer_rigOnly c) allFlyers w
    have result : raiseAllStop c s = { w with axes := A, flyers := F } :=
      (raiseAllStop_of_inactive inactive).trans shape
    rw [shape] at flyers released
    simp only [mem_allFlyers, if_true, true_and] at flyers released
    dsimp only
    rw [result]
    refine ⟨rfl, fun active => absurd inactive active, fun _ => ⟨rfl, flyers, fun a => ?_⟩⟩
    exact released.axis a
  · have result := raiseAllStop_of_active (c := c) inactive
    dsimp only
    rw [result]
    exact ⟨rfl, fun _ => rfl, fun inactive' => absurd inactive' inactive⟩

end Sys2Proof.Machine
end

section
/-! Formations and their leaders, and the enable release by the leader's state, with the arrival of a frame and the loss
of a link that take it (R38, R39, R43, R127, R175, R176, R178, R179, R185). -/

namespace Sys2Proof.Machine

variable {s t u : State} {f g h : FlyerId} {a : AxisId} {st o : Station} {q : Req}

/-! ## Leaders (R43, R45) -/

theorem leader_named (m : Formation) : m.names m.leader = true := by
  simp [Formation.names, Formation.flyers]

theorem self_mem_concernedFlyers (s : State) (f : FlyerId) : f ∈ concernedFlyers s f := by
  unfold concernedFlyers concerned
  split
  · next naming => exact names_iff.mp (names_of_formationNaming naming)
  · exact List.mem_singleton_self f

theorem concernedFlyers_of_naming {e : FormationId × Formation} (naming : formationNaming s f = some e) :
    concernedFlyers s f = e.2.flyers.map fun x => x.1 := by
  unfold concernedFlyers concerned
  rw [naming]

theorem concernedFlyers_of_alone (alone : formationNaming s f = none) : concernedFlyers s f = [f] := by
  unfold concernedFlyers concerned
  rw [alone]
  rfl

theorem leaderOf_of_naming {e : FormationId × Formation} (naming : formationNaming s f = some e) :
    leaderOf s f = e.2.leader := by
  unfold leaderOf
  rw [naming]

theorem leaderOf_of_alone (alone : formationNaming s f = none) : leaderOf s f = f := by
  unfold leaderOf
  rw [alone]

theorem isFollower_eq_false_iff : isFollower s f = false ↔ leaderOf s f = f := by
  unfold isFollower leaderOf
  cases formationNaming s f with
  | none => simp
  | some e => simp

/-- Every flyer that a formation names is named by that formation alone. -/
theorem naming_of_names {e : FormationId × Formation} (sound : FormationsSound s) (naming : formationNaming s f = some e)
    (named : e.2.names g = true) : formationNaming s g = some e :=
  formationNaming_of_names sound (formation_of_formationNaming naming) named

theorem leaderOf_leaderOf (sound : FormationsSound s) (f : FlyerId) : leaderOf s (leaderOf s f) = leaderOf s f := by
  cases naming : formationNaming s f with
  | none => rw [leaderOf_of_alone naming, leaderOf_of_alone naming]
  | some e =>
    rw [leaderOf_of_naming naming, leaderOf_of_naming (naming_of_names sound naming (leader_named e.2))]

theorem isFollower_leaderOf (sound : FormationsSound s) (f : FlyerId) : isFollower s (leaderOf s f) = false :=
  isFollower_eq_false_iff.mpr (leaderOf_leaderOf sound f)

/-- Two flyers are of one formation exactly where they have one leader. -/
theorem mem_concernedFlyers_iff (sound : FormationsSound s) : g ∈ concernedFlyers s f ↔ leaderOf s g = leaderOf s f := by
  cases naming : formationNaming s f with
  | none =>
    rw [concernedFlyers_of_alone naming, leaderOf_of_alone naming, List.mem_singleton]
    refine ⟨fun same => by rw [same]; exact leaderOf_of_alone naming, fun leads => ?_⟩
    cases its : formationNaming s g with
    | none => rwa [leaderOf_of_alone its] at leads
    | some e =>
      rw [leaderOf_of_naming its] at leads
      have := naming_of_names sound its (leader_named e.2)
      rw [leads, naming] at this
      cases this
  | some e =>
    rw [concernedFlyers_of_naming naming, leaderOf_of_naming naming, ← names_iff]
    refine ⟨fun named => leaderOf_of_naming (naming_of_names sound naming named), fun leads => ?_⟩
    have leader := naming_of_names sound naming (leader_named e.2)
    cases its : formationNaming s g with
    | none =>
      rw [leaderOf_of_alone its] at leads
      rw [← leads, its] at leader
      cases leader
    | some x =>
      rw [leaderOf_of_naming its] at leads
      have same := naming_of_names sound its (leader_named x.2)
      rw [leads, leader] at same
      cases same
      exact names_of_formationNaming its

theorem mem_concernedFlyers_of_leads (sound : FormationsSound s) (leads : isFollower s f = false) :
    g ∈ concernedFlyers s f ↔ leaderOf s g = f := by
  rw [mem_concernedFlyers_iff sound, isFollower_eq_false_iff.mp leads]

theorem RigOnly.leaderOf (only : RigOnly s t) (f : FlyerId) : leaderOf t f = leaderOf s f := by
  obtain ⟨A, F, rfl⟩ := only
  rfl

theorem RigOnly.isFollower (only : RigOnly s t) (f : FlyerId) : isFollower t f = isFollower s f := by
  obtain ⟨A, F, rfl⟩ := only
  rfl

/-- A sequence over flyers whose every element changes the formation that it leads, as it finds it: each formation is
changed once, by its leader. -/
theorem forEach_groups {op : FlyerId → State → State} {k : FlyerId → Flyer} {p : FlyerId → AxisId → Prop}
    (rig : ∀ f t, RigOnly t (op f t)) (defn : ∀ g, (k g).defn = (s.flyer g).defn)
    (each : ∀ f t, RigOnly s t → (∀ g, (t.flyer g).defn = (s.flyer g).defn) →
      (∀ g, leaderOf s g = f → t.flyer g = s.flyer g) →
      (∀ g, (op f t).flyer g = if leaderOf s g = f then k g else t.flyer g) ∧ Releases (p f) t (op f t))
    {l : List FlyerId} (nodup : l.Nodup) (t : State) (only : RigOnly s t) (defns : ∀ g, (t.flyer g).defn = (s.flyer g).defn)
    (fresh : ∀ g, leaderOf s g ∈ l → t.flyer g = s.flyer g) :
    (∀ g, (forEach l op t).flyer g = if leaderOf s g ∈ l then k g else t.flyer g) ∧
      Releases (fun a => ∃ f ∈ l, p f a) t (forEach l op t) := by
  induction l generalizing t with
  | nil => exact ⟨fun _ => rfl, (Releases.of_axes fun _ => rfl).congr (by simp)⟩
  | cons f l ih =>
    obtain ⟨once, nodup⟩ := List.nodup_cons.mp nodup
    obtain ⟨flyer, first⟩ := each f t only defns fun g leads => fresh g (by rw [leads]; exact List.mem_cons_self)
    have kept (g : FlyerId) (later : leaderOf s g ∈ l) : leaderOf s g ≠ f := fun same => once (same ▸ later)
    have defns' (g : FlyerId) : ((op f t).flyer g).defn = (s.flyer g).defn := by
      rw [flyer]
      split
      · exact defn g
      · exact defns g
    obtain ⟨flyers, rest⟩ := ih nodup (op f t) (only.trans (rig f t)) defns' fun g later => by
      rw [flyer, if_neg (kept g later)]
      exact fresh g (List.mem_cons_of_mem f later)
    constructor
    · intro g
      rw [forEach_cons, flyers, flyer]
      by_cases leads : leaderOf s g = f
      · rw [if_pos leads, ite_self, if_pos (by rw [leads]; exact List.mem_cons_self)]
      · simp only [List.mem_cons, leads, false_or, if_false]
    · refine (first.trans rest).congr fun a => ?_
      simp only [List.mem_cons, exists_eq_or_imp]

/-! ## The enable release (R178) -/

/-- What an enable release makes of a flyer, by its leader's state; `leads` says that it is its own leader (R38, R39,
R127, R178). -/
def enableOff (state : FlyerState) (leads : Bool) (x : Flyer) : Flyer :=
  match state with
  | .releasing => { x with state := .parked, run := none }
  | .cueRun .moving => { x with state := .holding }
  | .cueRun .dwelling => { x with state := .held .dwelling }
  | .cueRun .waiting => { x with state := .held .waiting }
  | .jogging => if leads then { x with run := x.run.map fun r => { r with jogReq := Vec3.zero, jogValid := 0 } } else x
  | .undefined | .unready | .unlocated | .parked | .holding | .held _ | .stopping _ | .faulted => x

theorem defn_enableOff (state : FlyerState) (leads : Bool) (x : Flyer) : (enableOff state leads x).defn = x.defn := by
  unfold enableOff
  split
  · rfl
  · rfl
  · rfl
  · rfl
  · split <;> rfl
  all_goals rfl

theorem releaseEnableOn_rigOnly (f : FlyerId) (s : State) : RigOnly s (releaseEnableOn f s) := by
  unfold releaseEnableOn
  split
  · exact leaveRun_rigOnly f .parked s
  · exact (setStates_flyersOnly _ _ s).rigOnly
  · exact (setStates_flyersOnly _ _ s).rigOnly
  · exact (setStates_flyersOnly _ _ s).rigOnly
  · exact modFlyer_rigOnly f _ s
  all_goals exact RigOnly.refl s

theorem flyer_releaseEnableOn (f : FlyerId) (s : State) (g : FlyerId) :
    (releaseEnableOn f s).flyer g =
      if g ∈ concernedFlyers s f then enableOff (s.flyer f).state (g = f) (s.flyer g) else s.flyer g := by
  unfold releaseEnableOn
  cases (s.flyer f).state with
  | releasing => exact flyer_leaveRun f .parked s g
  | cueRun ph => cases ph <;> exact flyer_setStates _ _ s g
  | jogging =>
    dsimp only
    rw [flyer_modRun]
    by_cases leads : g = f
    · subst leads
      simp [self_mem_concernedFlyers, enableOff]
    · simp [leads, enableOff]
  | undefined | unready | unlocated | parked | holding | held | stopping | faulted => exact (ite_self _).symm

theorem releaseEnableOn_releases (f : FlyerId) (s : State) :
    Releases (fun a => (∃ g ∈ concernedFlyers s f, a ∈ membersOf s g) ∧ (s.flyer f).state = .releasing) s
      (releaseEnableOn f s) := by
  unfold releaseEnableOn
  cases (s.flyer f).state with
  | releasing => exact (leaveRun_releases f .parked s).congr fun a => (and_iff_left rfl).symm
  | cueRun ph =>
    cases ph <;>
      exact (Releases.of_axes (setStates_flyersOnly (concernedFlyers s f) _ s).axis).congr fun a => by simp
  | jogging | undefined | unready | unlocated | parked | holding | held | stopping | faulted =>
    exact (Releases.of_axes fun _ => rfl).congr fun a => by simp

/-- One step of the enable release: the flyer, where its station owns it and it leads. -/
def releaseEnableOf (st : Station) (f : FlyerId) (t : State) : State :=
  if (t.grant f).owner = some st ∧ isFollower t f = false then releaseEnableOn f t else t

theorem releaseEnableOf_rigOnly (st : Station) (f : FlyerId) (s : State) : RigOnly s (releaseEnableOf st f s) :=
  RigOnly.ite (releaseEnableOn_rigOnly f s) (RigOnly.refl s)

theorem enableRelease_rigOnly (st : Station) (s : State) : RigOnly s (enableRelease st s) :=
  RigOnly.forEach (releaseEnableOf_rigOnly st) allFlyers s

theorem RigOnly.grant (only : RigOnly s t) (f : FlyerId) : t.grant f = s.grant f := by
  obtain ⟨A, F, rfl⟩ := only
  rfl

/-- What the enable release makes of a flyer, by its leader and the leader's owner. -/
def releasedFlyer (st : Station) (s : State) (g : FlyerId) : Flyer :=
  if (s.grant (leaderOf s g)).owner = some st then
    enableOff (s.flyer (leaderOf s g)).state (g = leaderOf s g) (s.flyer g)
  else s.flyer g

/-- An enable release, for every flyer and every axis. -/
theorem enableRelease_acts (sound : FormationsSound s) (st : Station) :
    (∀ g, (enableRelease st s).flyer g = releasedFlyer st s g) ∧
      Releases (fun a => ∃ g, a ∈ membersOf s g ∧ (s.flyer (leaderOf s g)).state = .releasing ∧
        (s.grant (leaderOf s g)).owner = some st) s (enableRelease st s) := by
  have each (f : FlyerId) (t : State) (only : RigOnly s t) (defns : ∀ g, (t.flyer g).defn = (s.flyer g).defn)
      (fresh : ∀ g, leaderOf s g = f → t.flyer g = s.flyer g) :
      (∀ g, (releaseEnableOf st f t).flyer g = if leaderOf s g = f then releasedFlyer st s g else t.flyer g) ∧
        Releases (fun a => (∃ g, leaderOf s g = f ∧ a ∈ membersOf s g) ∧ (s.flyer f).state = .releasing ∧
          (s.grant f).owner = some st) t (releaseEnableOf st f t) := by
    have none (unled : ¬((t.grant f).owner = some st ∧ isFollower t f = false)) (g : FlyerId) (leads : leaderOf s g = f) :
        ¬(s.grant f).owner = some st := fun owner => by
      subst leads
      exact unled ⟨only.grant _ ▸ owner, only.isFollower _ ▸ isFollower_leaderOf sound g⟩
    unfold releaseEnableOf
    split
    · next led =>
      rw [only.grant, only.isFollower] at led
      have concerned (g : FlyerId) : g ∈ concernedFlyers t f ↔ leaderOf s g = f := by
        rw [only.concernedFlyers, mem_concernedFlyers_of_leads sound led.2]
      have own : t.flyer f = s.flyer f := fresh f (isFollower_eq_false_iff.mp led.2)
      constructor
      · intro g
        rw [flyer_releaseEnableOn, own]
        by_cases leads : leaderOf s g = f
        · rw [if_pos ((concerned g).mpr leads), if_pos leads, releasedFlyer, leads, if_pos led.1, fresh g leads]
        · rw [if_neg fun mem => leads ((concerned g).mp mem), if_neg leads]
      · refine (releaseEnableOn_releases f t).congr fun a => ?_
        rw [own]
        simp only [concerned, membersOf_of_defn (defns _), led.1, and_true]
    · next unled =>
      constructor
      · intro g
        split
        · next leads => rw [releasedFlyer, leads, if_neg (none unled g leads), fresh g leads]
        · rfl
      · refine (Releases.of_axes fun _ => rfl).congr fun a => iff_of_false id ?_
        rintro ⟨⟨g, leads, -⟩, -, owner⟩
        exact none unled g leads owner
  have defn (g : FlyerId) : (releasedFlyer st s g).defn = (s.flyer g).defn := by
    unfold releasedFlyer
    split
    · exact defn_enableOff ..
    · rfl
  obtain ⟨flyers, releases⟩ := forEach_groups (releaseEnableOf_rigOnly st) defn each (by decide : allFlyers.Nodup) s
    (RigOnly.refl s) (fun _ => rfl) fun _ _ => rfl
  refine ⟨fun g => (flyers g).trans (if_pos (mem_allFlyers _)), releases.congr fun a => ?_⟩
  simp only [mem_allFlyers, true_and]
  constructor
  · rintro ⟨f, ⟨g, rfl, member⟩, released⟩
    exact ⟨g, member, released⟩
  · rintro ⟨g, member, released⟩
    exact ⟨_, ⟨g, rfl, member⟩, released⟩

/-- Settles O4: the release by the leader's state and owner. -/
theorem enableReleaseActsByFlyerState : Obligations.EnableReleaseActsByFlyerState := by
  unfold Obligations.EnableReleaseActsByFlyerState
  intro st s sound
  obtain ⟨flyers, releases⟩ := enableRelease_acts sound st
  refine ⟨enableRelease_rigOnly st s, fun a => releases.axis a, fun g => ?_⟩
  have flyer := flyers g
  dsimp only
  unfold releasedFlyer at flyer
  split
  · next owner =>
    rw [if_pos owner] at flyer
    unfold enableOff at flyer
    revert flyer
    cases (s.flyer (leaderOf s g)).state with
    | cueRun ph => cases ph <;> exact id
    | jogging => simp only [decide_eq_true_eq, imp_self]
    | undefined | unready | unlocated | parked | releasing | holding | held | stopping | faulted => exact id
  · next other => rwa [if_neg other] at flyer

/-! ## The enable release reads no station port -/

theorem forEach_setStation {α : Type} {op : α → State → State} {x : StationPort}
    (each : ∀ y s, op y (s.setStation o x) = (op y s).setStation o x) (l : List α) (s : State) :
    forEach l op (s.setStation o x) = (forEach l op s).setStation o x := by
  induction l generalizing s with
  | nil => rfl
  | cons y l ih => rw [forEach_cons, forEach_cons, each, ih]

theorem modFlyer_setStation (f : FlyerId) (k : Flyer → Flyer) (s : State) (x : StationPort) :
    modFlyer f k (s.setStation o x) = (modFlyer f k s).setStation o x := by
  cases o <;> rfl

theorem modAxis_setStation (a : AxisId) (k : Axis → Axis) (s : State) (x : StationPort) :
    modAxis a k (s.setStation o x) = (modAxis a k s).setStation o x := by
  cases o <;> rfl

theorem concernedFlyers_setStation (s : State) (x : StationPort) (f : FlyerId) :
    concernedFlyers (s.setStation o x) f = concernedFlyers s f := by
  cases o <;> rfl

theorem isFollower_setStation (s : State) (x : StationPort) (f : FlyerId) :
    isFollower (s.setStation o x) f = isFollower s f := by
  cases o <;> rfl

theorem setStates_setStation (fs : List FlyerId) (state : FlyerState) (s : State) (x : StationPort) :
    setStates fs state (s.setStation o x) = (setStates fs state s).setStation o x :=
  forEach_setStation (fun g s => modFlyer_setStation g (fun y => { y with state := state }) s x) fs s

theorem disengage_setStation (f : FlyerId) (s : State) (x : StationPort) :
    disengage f (s.setStation o x) = (disengage f s).setStation o x := by
  have members : membersOf (s.setStation o x) f = membersOf s f := by cases o <;> rfl
  unfold disengage
  rw [members]
  exact forEach_setStation (fun a s => modAxis_setStation a disengageAxis s x) _ s

theorem leaveRun_setStation (f : FlyerId) (state : FlyerState) (s : State) (x : StationPort) :
    leaveRun f state (s.setStation o x) = (leaveRun f state s).setStation o x := by
  have one (g : FlyerId) (s : State) : endRunOf state g (s.setStation o x) = (endRunOf state g s).setStation o x := by
    rw [endRunOf, modFlyer_setStation, disengage_setStation]
    rfl
  have all := forEach_setStation one (concernedFlyers s f) s
  unfold leaveRun
  rw [concernedFlyers_setStation]
  exact all

theorem releaseEnableOn_setStation (f : FlyerId) (s : State) (x : StationPort) :
    releaseEnableOn f (s.setStation o x) = (releaseEnableOn f s).setStation o x := by
  unfold releaseEnableOn
  rw [State.flyer_setStation, concernedFlyers_setStation]
  cases (s.flyer f).state with
  | releasing => exact leaveRun_setStation f .parked s x
  | cueRun ph => cases ph <;> exact setStates_setStation _ _ s x
  | jogging => exact modFlyer_setStation f _ s x
  | undefined | unready | unlocated | parked | holding | held | stopping | faulted => rfl

theorem enableRelease_setStation (st : Station) (s : State) (x : StationPort) :
    enableRelease st (s.setStation o x) = (enableRelease st s).setStation o x := by
  refine forEach_setStation (op := releaseEnableOf st) (fun f s => ?_) allFlyers s
  unfold releaseEnableOf
  rw [State.grant_setStation, isFollower_setStation, releaseEnableOn_setStation]
  split <;> rfl

/-! ## The arrival of a frame (R175, R176) -/

theorem RigOnly.station (only : RigOnly s t) (st : Station) : t.station st = s.station st := by
  obtain ⟨A, F, rfl⟩ := only
  cases st <;> rfl

/-- What the arrival of a frame that is taken leaves. -/
theorem arrived_eq (q : Req) (s : State) :
    arrived q s =
      (if q.enable then s else enableRelease q.st s).setStation q.st
        { s.station q.st with
          enable := q.enable, link := .up, silence := some 250, good := (s.station q.st).good + 1 } := by
  unfold arrived arrive modStation
  dsimp only
  split
  · cases q.st <;> rfl
  · rw [enableRelease_setStation]
    obtain ⟨A, F, eq⟩ := enableRelease_rigOnly q.st s
    rw [eq]
    cases q.st <;> rfl

theorem enabled_rigOnly (q : Req) (s : State) : RigOnly s (if q.enable then s else enableRelease q.st s) :=
  RigOnly.ite (RigOnly.refl s) (enableRelease_rigOnly q.st s)

/-- Settles O3: the arrival written out, with the enable release on the state before it. -/
theorem arrivalTakesEnableLinkAndTimer : Obligations.ArrivalTakesEnableLinkAndTimer := by
  unfold Obligations.ArrivalTakesEnableLinkAndTimer
  intro q s
  have shape := arrived_eq q s
  have rig := enabled_rigOnly q s
  have station := rig.station
  dsimp only
  rw [shape]
  refine ⟨?_, fun o other => ?_, fun on => ?_, fun off => ?_, ?_⟩
  · rw [State.station_setStation, if_pos rfl]
  · rw [State.station_setStation, if_neg (Ne.symm other), station]
  · rw [if_pos on]
    exact ⟨State.setStation_axes .., State.setStation_flyers ..⟩
  · rw [if_neg (by rw [off]; decide)]
    exact ⟨State.setStation_axes .., State.setStation_flyers ..⟩
  · obtain ⟨A, F, eq⟩ := rig
    rw [eq]
    cases q.st <;> rfl

/-! ## The loss of a link (R179, R185) -/

theorem allRestForGrants_weighGrant (st : Station) (f g : FlyerId) (s : State) :
    allRestForGrants (weighGrant st g s) f = allRestForGrants s f := by
  unfold weighGrant
  split
  · split <;> rfl
  · rfl

/-- The grant of a flyer of the station whose link is lost (R185). -/
def weighedGrant (st : Station) (s : State) (f : FlyerId) : Grant :=
  if (s.grant f).owner = some st then
    if allRestForGrants s f then Grant.initial else { owner := some st, mark := true }
  else s.grant f

theorem grant_weighGrant (st : Station) (f g : FlyerId) (s : State) :
    (weighGrant st f s).grant g = if f = g then weighedGrant st s f else s.grant g := by
  unfold weighGrant weighedGrant
  by_cases same : f = g
  · subst same
    rw [if_pos rfl]
    split
    · split <;> exact State.grant_setGrant_self ..
    · rfl
  · rw [if_neg same]
    split
    · split <;> exact State.grant_setGrant_ne _ _ _ _ same
    · rfl

theorem grant_forEach_weighGrant (st : Station) {l : List FlyerId} (nodup : l.Nodup) (s : State) (f : FlyerId) :
    (forEach l (weighGrant st) s).grant f = if f ∈ l then weighedGrant st s f else s.grant f := by
  induction l generalizing s with
  | nil => rfl
  | cons g l ih =>
    obtain ⟨once, nodup⟩ := List.nodup_cons.mp nodup
    rw [forEach_cons, ih nodup, grant_weighGrant]
    by_cases same : g = f
    · subst same
      rw [if_neg once, if_pos rfl, if_pos List.mem_cons_self]
    · simp only [weighedGrant, grant_weighGrant, allRestForGrants_weighGrant, if_neg same, List.mem_cons, Ne.symm same,
        false_or]

theorem forEach_weighGrant_frame (st : Station) (l : List FlyerId) (s : State) :
    ∃ G, forEach l (weighGrant st) s = { s with grants := G } := by
  refine forEach_rel (fun s t => ∃ G, t = { s with grants := G }) (fun s => ⟨s.grants, rfl⟩)
    (by rintro _ _ _ ⟨_, rfl⟩ ⟨G, rfl⟩; exact ⟨G, rfl⟩) (weighGrant st) l (fun f _ s => ?_) s
  unfold weighGrant
  split
  · split
    · exact ⟨_, rfl⟩
    · exact ⟨_, rfl⟩
  · exact ⟨s.grants, rfl⟩

/-- LINK_LOST as it is logged (R179). -/
def linkLostEntry (st : Station) (s : State) : LogEntry :=
  { time := s.clock, code := .linkLost, cls := .note, flyer := none, axis := none, station := some st, port := none,
    detail := .none }

/-- What the loss of a link leaves before the grants are weighed. -/
def linkDown (st : Station) (s : State) : State :=
  { (enableRelease st s).setStation st
      { s.station st with link := .lost, enable := false, silence := none, upload := none, queue := [] } with
    log := logAfter s.logMode s.log (linkLostEntry st s) }

theorem loseLink_eq (st : Station) (s : State) : loseLink st s = forEach allFlyers (weighGrant st) (linkDown st s) := by
  unfold loseLink
  dsimp only
  congr 1
  unfold modStation linkDown
  rw [enableRelease_setStation]
  obtain ⟨A, F, eq⟩ := enableRelease_rigOnly st s
  rw [eq]
  cases st <;> rfl

/-- Settles O8: the loss of the link written out. -/
theorem silenceExpiryLosesTheLink : Obligations.SilenceExpiryLosesTheLink := by
  unfold Obligations.SilenceExpiryLosesTheLink
  intro st s runs
  have meaning : exec (.silenceTimerExpiry st) s =
      .next (finish (if (s.station st).link = .up then loseLink st s else s)) :=
    whileRunning_of_running runs _
  refine ⟨fun down => ?_, fun up => ⟨loseLink st s, ?_, ?_⟩⟩
  · rw [meaning, if_neg down]
  · rw [meaning, if_pos up]
  · obtain ⟨G, frame⟩ := forEach_weighGrant_frame st allFlyers (linkDown st s)
    have grants := grant_forEach_weighGrant st nodup_allFlyers (linkDown st s)
    rw [frame] at grants
    have rig := enableRelease_rigOnly st s
    have station := rig.station
    have shape : loseLink st s = { linkDown st s with grants := G } := (loseLink_eq st s).trans frame
    rw [shape]
    refine ⟨?_, fun o other => ?_, ?_, ?_, rfl, fun f => ?_, ?_⟩
    · exact (State.station_setStation ..).trans (if_pos rfl)
    · exact ((State.station_setStation ..).trans (if_neg (Ne.symm other))).trans (station o)
    · exact State.setStation_axes ..
    · exact State.setStation_flyers ..
    · rw [grants f, if_pos (mem_allFlyers f), weighedGrant]
      have same : (linkDown st s).grant f = s.grant f := by
        rw [← rig.grant f]
        exact State.grant_setStation ..
      rw [same]
      rfl
    · obtain ⟨A, F, eq⟩ := rig
      unfold linkDown
      rw [eq]
      cases st <;> rfl

end Sys2Proof.Machine
end

section
/-! Numbers out of range, the checks that stand before a motion request, and the reads (R42, R79, R164, R181, R182, R186 to
R190). -/

namespace Sys2Proof.Machine

variable {q : Req} {s u v : State} {f : FlyerId} {n : Nat} {c : Instr} {code : Nat} {body : State → State × Reply}

/-- A request that is taken is answered as its body decides it on the arrived state. -/
theorem Taken.answered {r : ResultCode} {b : ReplyBody} (taken : Taken q s) (meaning : exec c s = takeRequest q code body s)
    (row : body (arrived q s) = (v, ⟨r, b⟩)) : Answered c q code r b s v := by
  rw [Answered, meaning, takeRequest_of_taken taken, row]

/-! ## Numbers out of range (R181) -/

@[simp] theorem zoneNamed_val (z : ZoneId) : zoneNamed z.val = some z := dif_pos z.isLt

@[simp] theorem portNamed_val (p : PortId) : portNamed p.val = some p := dif_pos p.isLt

@[simp] theorem formationNamed_val (n : FormationId) : formationNamed n.val = some n := dif_pos n.isLt

theorem zoneNamed_of_le (outside : 8 ≤ n) : zoneNamed n = none := dif_neg outside.not_gt

theorem portNamed_of_le (outside : 6 ≤ n) : portNamed n = none := dif_neg outside.not_gt

theorem formationNamed_of_le (outside : 2 ≤ n) : formationNamed n = none := dif_neg outside.not_gt

theorem motionRequest_of_le {needEnable : Bool} {k : FlyerId → State → State × Reply} (outside : 4 ≤ n) (u : State) :
    motionRequest q needEnable n k u = refuse .badValue [] u := by
  rw [motionRequest, flyerNamed_of_le outside]

theorem claimBody_of_le (outside : 4 ≤ n) : claimBody q n u = refuse .badValue [] u := by
  rw [claimBody, flyerNamed_of_le outside]

theorem setFlyerBody_of_le (outside : 4 ≤ n) (d : FlyerFields) : setFlyerBody q n d u = refuse .badValue [] u := by
  simp only [setFlyerBody, flyerNamed_of_le outside]

theorem locateBody_of_le (outside : 4 ≤ n) (p : Vec3) : locateBody q n p u = refuse .badValue [] u := by
  rw [locateBody, flyerNamed_of_le outside]

theorem startCueBody_of_le (outside : 4 ≤ n) (cue : Nat) : startCueBody q n cue u = refuse .badValue [] u := by
  rw [startCueBody, motionRequest_of_le outside, ite_self]

theorem setAxisBody_of_le (outside : 12 ≤ n) (p : AxisParams) : setAxisBody q n p u = refuse .badValue [] u := by
  simp only [setAxisBody, axisNamed_of_le outside]

theorem setZoneBody_of_le (outside : 8 ≤ n) (d : ZoneFields) : setZoneBody n d u = refuse .badValue [] u := by
  simp only [setZoneBody, zoneNamed_of_le outside]

theorem writeSlotsBody_of_le (outside : 6 ≤ n) (i j : Nat) : writeSlotsBody n i j u = refuse .badValue [] u := by
  simp only [writeSlotsBody, portNamed_of_le outside]

theorem swapSlotsBody_of_le (outside : 6 ≤ n) : swapSlotsBody n u = refuse .badValue [] u := by
  simp only [swapSlotsBody, portNamed_of_le outside]

theorem setFormationBody_of_le (outside : 2 ≤ n) (d : FormationFields) :
    setFormationBody q n d u = refuse .badValue [] u := by
  simp only [setFormationBody, formationNamed_of_le outside]

theorem clearFormationBody_of_le (outside : 2 ≤ n) : clearFormationBody q n u = refuse .badValue [] u := by
  simp only [clearFormationBody, formationNamed_of_le outside]

theorem cueNumber_out (out : n = 0 ∨ 200 < n) : within 1 200 n = false := by
  rw [← Bool.not_eq_true, within_cueNumber_iff]
  omega

theorem deleteCueBody_of_out (out : n = 0 ∨ 200 < n) : deleteCueBody n u = refuse .badValue [] u := by
  rw [deleteCueBody, if_pos (cueNumber_out out)]

theorem startCueBody_of_out (out : n = 0 ∨ 200 < n) (f : Nat) : startCueBody q f n u = refuse .badValue [] u := by
  rw [startCueBody, if_pos (cueNumber_out out)]

/-- Settles O9: each number's own row. -/
theorem numbersOutOfRangeAreRefused : Obligations.NumbersOutOfRangeAreRefused := by
  unfold Obligations.NumbersOutOfRangeAreRefused
  intro q s taken
  refine ⟨fun n out d w cue => ?_, fun n out p => ?_, fun n out d => ?_, fun n out a b => ?_, fun n out d => ?_,
    fun n out f => ?_⟩ <;> simp only [List.forall_mem_cons, List.not_mem_nil, false_imp_iff, implies_true, and_true]
  · exact ⟨taken.refused (exec_readFlyer q n s) (by rw [flyerNamed_of_le out]),
      taken.refused (exec_claimFlyer q n s) (claimBody_of_le out),
      taken.refused (exec_releaseFlyer q n s) (releaseBody_of_le out),
      taken.refused (exec_setFlyer q n s d) (setFlyerBody_of_le out d),
      taken.refused (exec_clearFlyer q n s) (clearFlyerBody_of_le out),
      taken.refused (exec_locate q n s w) (locateBody_of_le out w),
      taken.refused (exec_startCue q n cue s) (startCueBody_of_le out cue),
      taken.refused (exec_hold q n s) (motionRequest_of_le out _),
      taken.refused (exec_resume q n s) (motionRequest_of_le out _),
      taken.refused (exec_go q n s) (motionRequest_of_le out _),
      taken.refused (exec_stopFlyer q n s) (motionRequest_of_le out _),
      taken.refused (exec_jog q n s w) (motionRequest_of_le out _),
      taken.refused (exec_clearFault q n s) (clearFaultBody_of_le out)⟩
  · exact ⟨taken.refused (exec_readAxis q n s) (by rw [axisNamed_of_le out]),
      taken.refused (exec_setAxis q n s p) (setAxisBody_of_le out p),
      taken.refused (exec_clearAxis q n s) (clearAxisBody_of_le out)⟩
  · exact ⟨taken.refused (exec_readZone q n s) (by rw [zoneNamed_of_le out]),
      taken.refused (exec_setZone q n s d) (setZoneBody_of_le out d)⟩
  · exact ⟨taken.refused (exec_writeSlots q n a s b) (writeSlotsBody_of_le out a b),
      taken.refused (exec_swapSlots q n s) (swapSlotsBody_of_le out)⟩
  · exact ⟨taken.refused (exec_setFormation q n s d) (setFormationBody_of_le out d),
      taken.refused (exec_clearFormation q n s) (clearFormationBody_of_le out)⟩
  · exact ⟨taken.refused (exec_deleteCue q n s) (deleteCueBody_of_out out),
      taken.refused (exec_startCue q f n s) (startCueBody_of_out out f)⟩

/-! ## The checks of a motion request (R42, R164, R181, R182) -/

/-- The rows of a motion request on a flyer that there is. -/
theorem motionRequest_val (q : Req) (needEnable : Bool) (f : FlyerId) (k : FlyerId → State → State × Reply) (u : State) :
    motionRequest q needEnable f.val k u =
      if (u.grant f).owner ≠ some q.st then refuse .notOwner [] u
      else if needEnable = true ∧ q.enable = false then refuse .noEnable [] u
      else if u.allStop ≠ none then refuse .allStop [] u
      else if isFollower u f = true then refuse .busy [] u
      else if (u.flyer f).state = .undefined then refuse .notReady [] u
      else k f u := by
  simp only [motionRequest, flyerNamed_val, motionGrant_eq_false_iff, Bool.and_eq_true, Bool.not_eq_true',
    Option.isSome_iff_ne_none]

theorem motionRequest_open {needEnable : Bool} {k : FlyerId → State → State × Reply}
    (passes : MotionOpen q f needEnable u) : motionRequest q needEnable f.val k u = k f u := by
  obtain ⟨owner, enabled, calm, leads, defined⟩ := passes
  rw [motionRequest_val, if_neg (not_not_intro owner), if_neg, if_neg (not_not_intro calm), if_neg (by simp [leads]),
    if_neg defined]
  rintro ⟨need, off⟩
  rw [enabled need] at off
  cases off

/-- A request that is taken as a motion request is refused by the first check that it fails. -/
theorem Taken.motionRows {needEnable : Bool} {k : FlyerId → State → State × Reply} (taken : Taken q s)
    (meaning : exec c s = takeRequest q code body s)
    (row : body (arrived q s) = motionRequest q needEnable f.val k (arrived q s)) :
    let u := arrived q s
    ((u.grant f).owner ≠ some q.st → Refused c q code .notOwner [] s u) ∧
      ((u.grant f).owner = some q.st →
        (needEnable = true → q.enable = false → Refused c q code .noEnable [] s u) ∧
        ((needEnable = true → q.enable = true) →
          (u.allStop ≠ none → Refused c q code .allStop [] s u) ∧
          (u.allStop = none →
            (isFollower u f = true → Refused c q code .busy [] s u) ∧
            (isFollower u f = false → (u.flyer f).state = .undefined → Refused c q code .notReady [] s u)))) := by
  rw [motionRequest_val] at row
  refine ⟨fun foreign => ?_, fun owner => ⟨fun need off => ?_, fun enabled => ⟨fun active => ?_, fun calm =>
    ⟨fun follows => ?_, fun leads undefined => ?_⟩⟩⟩⟩
  · exact taken.refused meaning (row.trans (if_pos foreign))
  all_goals rw [if_neg (not_not_intro owner)] at row
  · exact taken.refused meaning (row.trans (if_pos ⟨need, off⟩))
  all_goals
    have enabled' : ¬(needEnable = true ∧ q.enable = false) := fun ⟨need, off⟩ => by
      rw [enabled need] at off
      cases off
    rw [if_neg enabled'] at row
  · exact taken.refused meaning (row.trans (if_pos active))
  all_goals rw [if_neg (not_not_intro calm)] at row
  · exact taken.refused meaning (row.trans (if_pos follows))
  · rw [if_neg (by simp [leads]), if_pos undefined] at row
    exact taken.refused meaning row

theorem locateBody_inRange {p : Vec3} (inRange : locateInRange u f p = true) :
    locateBody q f.val p u = motionRequest q false f.val (fun g t =>
      match firstRefused locatable t (concernedFlyers t g) with
      | some e => refuse e.2 [] t
      | none =>
        match locateRefusal t p (concerned t g) with
        | some r => refuse r.1 r.2 t
        | none => done (takePoints p (concerned t g) t)) u := by
  rw [locateBody, flyerNamed_val]
  exact if_neg (by simp [inRange])

theorem startCueBody_inRange {cue : Nat} (low : 1 ≤ cue) (high : cue ≤ 200) :
    startCueBody q n cue u = motionRequest q true n (fun f t =>
      match firstRefused startable t (concernedFlyers t f) with
      | some e => refuse e.2 [] t
      | none => startChecked f cue t) u :=
  if_neg (by rw [within_cueNumber_iff.mpr ⟨low, high⟩]; decide)

/-- Settles O10: each motion request and LOCATE by the rows that they share. -/
theorem motionRequestsPassTheirChecksInOrder : Obligations.MotionRequestsPassTheirChecksInOrder := by
  unfold Obligations.MotionRequestsPassTheirChecksInOrder
  intro q f cue w p s taken low high
  dsimp only
  intro inRange e mem
  simp only [List.mem_cons, List.not_mem_nil, or_false] at mem
  rcases mem with rfl | rfl | rfl | rfl | rfl | rfl | rfl
  · exact taken.motionRows (exec_startCue q f.val cue s) (startCueBody_inRange low high)
  · exact taken.motionRows (exec_hold q f.val s) rfl
  · exact taken.motionRows (exec_resume q f.val s) rfl
  · exact taken.motionRows (exec_go q f.val s) rfl
  · exact taken.motionRows (exec_stopFlyer q f.val s) rfl
  · exact taken.motionRows (exec_jog q f.val s w) rfl
  · exact taken.motionRows (exec_locate q f.val s p) (locateBody_inRange inRange)

/-! ## The reads (R79, R186 to R190) -/

/-- Settles O11: the two views field by field. -/
theorem readStatusAndReadCountersReturnTheState : Obligations.ReadStatusAndReadCountersReturnTheState := by
  unfold Obligations.ReadStatusAndReadCountersReturnTheState
  intro q s taken
  exact ⟨⟨statusView (arrived q s), taken.answered (exec_readStatus q s) rfl, rfl, rfl, rfl, rfl, rfl, rfl, rfl, rfl, rfl,
    rfl, rfl, rfl, rfl, rfl, rfl⟩, countersView (arrived q s), taken.answered (exec_readCounters q s) rfl, rfl, rfl⟩

theorem jogSpeedOf_eq (r : Run) : jogSpeedOf r = if r.kind = .jog then some (rootNearest r.jogV.sq.toNat) else none := by
  unfold jogSpeedOf
  cases r.kind <;> rfl

/-- Settles O12: the three views field by field, the absent cases included. -/
theorem readFlyerAxisAndZoneReturnTheRecord : Obligations.ReadFlyerAxisAndZoneReturnTheRecord := by
  unfold Obligations.ReadFlyerAxisAndZoneReturnTheRecord
  intro q s taken
  refine ⟨fun f => ⟨flyerView (arrived q s) f, ?_, rfl, rfl, fun undefined => ?_, fun d defn => ?_⟩,
    fun a => ⟨axisView (arrived q s) a, ?_, rfl, rfl, rfl, rfl, rfl, rfl, ?_, rfl, ?_, ?_, rfl⟩, fun z => ?_⟩
  · exact taken.answered (exec_readFlyer q f.val s) (by rw [flyerNamed_val]; rfl)
  · rw [flyerView, undefined]
    rfl
  · refine ⟨flyerBody (arrived q s) f d, ?_, rfl, rfl, rfl, rfl, rfl, rfl, rfl, rfl, rfl, rfl, rfl, rfl, rfl, ?_⟩
    · rw [flyerView, defn]
      rfl
    · exact congrArg (Option.bind _) (funext jogSpeedOf_eq)
  · exact taken.answered (exec_readAxis q a.val s) (by rw [axisNamed_val]; rfl)
  · simp only [axisView, decide_eq_true_eq, ne_eq, ite_not]
  · simp only [axisView, decide_eq_true_eq, ne_eq, ite_not]
  · simp only [axisView]
    cases ((arrived q s).axis a).params <;> cases ((arrived q s).axis a).feedback <;> rfl
  · exact taken.answered (exec_readZone q z.val s) (by rw [zoneNamed_val]; rfl)

theorem readCueBody_refused {cue start : Nat} (out : 200 < cue ∨ 249 < start ∨ (cue = 0 ∧ start ≠ 0)) :
    readCueBody cue start u = refuse .badValue [] u := by
  unfold readCueBody
  split
  · rfl
  · next inside =>
    have : cue = 0 ∧ start ≠ 0 := by omega
    rw [if_pos this.1, if_neg this.2]

theorem readCueBody_absent {cue start : Nat} (low : 1 ≤ cue) (high : cue ≤ 200) (inside : start ≤ 249)
    (absent : cueOf u.dir cue = none) : readCueBody cue start u = refuse .noCue [] u := by
  unfold readCueBody
  rw [if_neg (by omega), if_neg (by omega), absent]

theorem readCueBody_found {cue start : Nat} (low : 1 ≤ cue) (high : cue ≤ 200) (inside : start ≤ 249) {x : Cue}
    (found : cueOf u.dir cue = some x) :
    readCueBody cue start u =
      if x.recs.length ≤ start then refuse .badValue [] u
      else report (.cue x.kind x.recs.length (((x.recs.drop start).take 8).map sentRecord)) u := by
  unfold readCueBody
  rw [if_neg (by omega), if_neg (by omega), found]

/-- Settles O13: the rows of READ_LOG and READ_CUE, and what each returns. -/
theorem readLogAndReadCueReturnTheStores : Obligations.ReadLogAndReadCueReturnTheStores := by
  unfold Obligations.ReadLogAndReadCueReturnTheStores
  intro q s taken
  refine ⟨fun i => ⟨fun out => ?_, fun low stands => ?_⟩, fun c i out => ?_,
    ⟨cueSummary (arrived q s), ?_, rfl, poolFree_eq _, rfl, rfl⟩, fun c i low high inside => ?_⟩
  · exact taken.refused (exec_readLog q i s) (if_pos out)
  · refine taken.answered (exec_readLog q i s) (if_neg ?_)
    rintro (far | ⟨past, more⟩)
    · omega
    · exact stands.elim (fun before => absurd past before.not_ge) more
  · exact taken.refused (exec_readCue q c i s) (readCueBody_refused out)
  · exact taken.answered (exec_readCue q 0 0 s) rfl
  · refine ⟨fun absent => ?_, fun x found => ?_⟩
    · exact taken.refused (exec_readCue q c i s) (readCueBody_absent low high inside absent)
    · have row := readCueBody_found low high inside found
      refine ⟨fun past => taken.refused (exec_readCue q c i s) (row.trans (if_pos past)), fun within => ?_⟩
      refine ⟨_, taken.answered (exec_readCue q c i s) (row.trans (if_neg within.not_ge)), ?_, fun j r sent => ?_⟩
      · rw [List.length_map, List.length_take, List.length_drop]
      · rw [List.getElem?_map, Option.map_eq_some_iff] at sent
        obtain ⟨y, stored, rfl⟩ := sent
        rw [List.getElem?_take] at stored
        split at stored
        · exact ⟨y, by rwa [List.getElem?_drop] at stored, rfl⟩
        · cases stored

end Sys2Proof.Machine
end

section
/-! The rig table's requests by their rows: SET_AXIS, SET_FLYER, SET_FORMATION and CLEAR_FORMATION (R22, R31, R32, R43,
R44). -/

namespace Sys2Proof.Machine

variable {q : Req} {s t u v : State} {f g : FlyerId} {a : AxisId} {n : FormationId} {p : AxisParams} {d : FlyerDef}

/-! ## SET_AXIS (R22) -/

theorem setAxisBody_badValue (out : paramsInRange p = false) : setAxisBody q a.val p u = refuse .badValue [] u := by
  simp only [setAxisBody, axisNamed_val, out]

theorem setAxisBody_free (range : paramsInRange p = true) (free : flyerOfAxis u a = none) :
    setAxisBody q a.val p u =
      if u.image = .saving ∨ (u.axis a).state = .engaged then refuse .busy [] u
      else done (u.setAxis a { u.axis a with params := some p, slack := 0 }) := by
  simp only [setAxisBody, axisNamed_val, range, free, setFreeAxis, saving_iff]
  by_cases saves : u.image = .saving
  · simp only [saves, if_true, true_or]
  · simp only [saves, if_false, false_or]
    rfl

theorem paramsOf_setAxis (a : AxisId) (p : AxisParams) (u : State) :
    paramsOf (u.setAxis a { u.axis a with params := some p, slack := 0 }) = paramsWith u a p := by
  funext b
  rw [paramsOf, State.axis_setAxis, paramsWith]
  by_cases same : a = b
  · rw [if_pos same, if_pos same.symm]
  · rw [if_neg same, if_neg (Ne.symm same)]
    rfl

theorem recomputeRig_setAxis (defn : (u.flyer f).defn = some d) (a : AxisId) (p : AxisParams) :
    recomputeRig f (u.setAxis a { u.axis a with params := some p, slack := 0 }) =
      (u.setAxis a { u.axis a with params := some p, slack := 0 }).setFlyer f
        { u.flyer f with rig := some (rigConstsOf (anchorsUnder (paramsWith u a p) d) d.drop) } := by
  have recompute {t : State} (stands : (t.flyer f).defn = some d) : recomputeRig f t = modFlyer f
      (fun x => { x with rig := some (rigConstsOf (anchorsUnder (paramsOf t) d) d.drop) }) t := by
    simp only [recomputeRig, stands]
  rw [recompute (by rw [State.flyer_setAxis, defn]), paramsOf_setAxis]
  rfl

theorem setAxisBody_member (range : paramsInRange p = true) (member : flyerOfAxis u a = some f)
    (defn : (u.flyer f).defn = some d) :
    setAxisBody q a.val p u =
      if (u.grant f).owner ≠ none ∧ (u.grant f).owner ≠ some q.st then refuse .notOwner [] u
      else if u.image = .saving ∨ (u.axis a).state = .engaged ∨ (u.flyer f).state.restOutsideRun = false then
        refuse .busy [] u
      else if anchorsUsable (paramsWith u a p) d = false then refuse .badValue [] u
      else if displaced u f (rigUnder (paramsWith u a p) d) = true then refuse .occupied [] u
      else done ((u.setAxis a { u.axis a with params := some p, slack := 0 }).setFlyer f
        { u.flyer f with rig := some (rigConstsOf (anchorsUnder (paramsWith u a p) d) d.drop) }) := by
  rw [← recomputeRig_setAxis defn a p]
  simp only [setAxisBody, axisNamed_val, range, member, setMemberAxis, defn, editGrant_eq_false_iff, saving_iff]
  by_cases saves : u.image = .saving
  · simp only [saves, if_true, true_or]
  · by_cases engaged : (u.axis a).state = .engaged
    · simp only [saves, engaged, if_true, if_false, true_or, or_true]
    · simp only [saves, engaged, if_false, false_or]
      rfl

/-- Settles O15: the rows of R22, for a free axis and for a member. -/
theorem setAxisReplacesTheParameterSet : Obligations.SetAxisReplacesTheParameterSet := by
  unfold Obligations.SetAxisReplacesTheParameterSet
  intro q a p s taken
  have meaning := exec_setAxis q a.val s p
  refine ⟨fun out => taken.refused meaning (setAxisBody_badValue out), fun range free => ?_, fun f d range member defn => ?_⟩
  · have row := setAxisBody_free (q := q) range free
    refine ⟨fun busy => taken.refused meaning (row.trans (if_pos busy)), fun idle unengaged => ?_⟩
    exact taken.completed meaning (row.trans (if_neg (not_or_intro idle unengaged)))
  · have row := setAxisBody_member (q := q) range member defn
    dsimp only
    split_ifs at row ⊢
    · exact taken.refused meaning row
    · exact taken.refused meaning row
    · exact taken.refused meaning row
    · exact taken.refused meaning row
    · exact taken.completed meaning row

/-! ## SET_FLYER (R31, R32) -/

theorem setFlyer_setFlyer (f : FlyerId) (x y : Flyer) (s : State) : (s.setFlyer f x).setFlyer f y = s.setFlyer f y := by
  simp only [State.setFlyer, Vector.set_set]

/-- The readiness rule on a record that has just been given a definition. -/
theorem readiness_setFlyer {x : Flyer} (defn : x.defn = some d) (u : State) :
    readiness f (u.setFlyer f x) =
      u.setFlyer f { x with
        state := readyState (d.members.all fun a => decide ((u.axis a).state = .ready)) x.located x.state } := by
  have members : membersOf (u.setFlyer f x) f = d.members := by
    rw [membersOf, State.flyer_setFlyer_self, defn]
  rw [readiness_eq, modFlyer, State.flyer_setFlyer_self, setFlyer_setFlyer, membersReady, members]
  rfl

theorem setFlyerBody_undefined {fields : FlyerFields} (bad : flyerDefOf fields = none) (n : Nat) :
    setFlyerBody q n fields u = refuse .badValue [] u := by
  simp only [setFlyerBody, bad]
  cases flyerNamed n <;> rfl

theorem setFlyerBody_val {fields : FlyerFields} (named : flyerDefOf fields = some d) :
    setFlyerBody q f.val fields u =
      if (u.grant f).owner ≠ none ∧ (u.grant f).owner ≠ some q.st then refuse .notOwner [] u
      else if u.image = .saving then refuse .busy [] u
      else if definitionUsable u f d = false then refuse .badValue [] u
      else if redefinable (u.flyer f).state = false ∨ someEngaged u f = true then refuse .busy [] u
      else if displacedBy u f d = true then refuse .occupied [⟨.flyer, f.val⟩] u
      else done (installDefinition f d u) := by
  simp only [setFlyerBody, flyerNamed_val, named, editGrant_eq_false_iff, saving_iff]

/-- A change of rig kind takes a PARKED flyer to UNLOCATED, which the readiness rule does too. -/
theorem readyState_unparked (ready : Bool) (x : FlyerState) :
    readyState ready false (if x = .parked then .unlocated else x) = readyState ready false x := by
  cases x <;> rfl

/-- Settles O16: the rows of R31, and the record by its old definition. -/
theorem setFlyerReplacesTheDefinition : Obligations.SetFlyerReplacesTheDefinition := by
  unfold Obligations.SetFlyerReplacesTheDefinition
  intro q f fields s taken
  have meaning := exec_setFlyer q f.val s fields
  refine ⟨fun bad => taken.refused meaning (setFlyerBody_undefined bad f.val), fun d named => ?_⟩
  have row := setFlyerBody_val (q := q) (f := f) (u := arrived q s) named
  dsimp only
  split_ifs at row ⊢
  · exact taken.refused meaning row
  · exact taken.refused meaning row
  · exact taken.refused meaning row
  · exact taken.refused meaning row
  · exact taken.refused meaning row
  · unfold installDefinition at row
    dsimp only at row
    cases old : ((arrived q s).flyer f).defn with
    | none =>
      rw [old] at row
      dsimp only at row ⊢
      rw [readiness_setFlyer rfl] at row
      exact taken.completed meaning row
    | some e =>
      rw [old] at row
      dsimp only at row ⊢
      by_cases kind : rigKindOf e.members.length = rigKindOf d.members.length
      · rw [if_pos kind] at row ⊢
        rw [readiness_setFlyer rfl] at row
        exact taken.completed meaning row
      · rw [if_neg kind] at row ⊢
        rw [readiness_setFlyer rfl] at row
        dsimp only at row
        rw [readyState_unparked] at row
        exact taken.completed meaning row

/-! ## SET_FORMATION and CLEAR_FORMATION (R43, R44) -/

/-- Some flyer of a list is in a run or has a member ENGAGED. -/
def BusyAmong (u : State) (fs : List FlyerId) : Prop :=
  ∃ g ∈ fs, (u.flyer g).state.restOutsideRun = false ∨ someEngaged u g = true

/-- Two flyers of a list have different owners. -/
def MixedAmong (u : State) (fs : List FlyerId) : Prop := ∃ g ∈ fs, ∃ h ∈ fs, (u.grant g).owner ≠ (u.grant h).owner

/-- Some flyer of a list is the other station's. -/
def ForeignAmong (q : Req) (u : State) (fs : List FlyerId) : Prop :=
  ∃ g ∈ fs, (u.grant g).owner ≠ none ∧ (u.grant g).owner ≠ some q.st

theorem all_editable_eq_false_iff {fs : List FlyerId} : fs.all (editable u) = false ↔ BusyAmong u fs := by
  simp only [List.all_eq_false, BusyAmong, editable, Bool.and_eq_true, Bool.not_eq_true', not_and_or, Bool.not_eq_true,
    Bool.not_eq_false]

theorem formationRefusal_busy {fs : List FlyerId} (busy : BusyAmong u fs) : formationRefusal q u fs = some .busy :=
  if_pos (all_editable_eq_false_iff.mpr busy)

/-- The owners of a list agree exactly where every one is the first's. -/
theorem mixedAmong_cons_iff {f : FlyerId} {fs : List FlyerId} :
    MixedAmong u (f :: fs) ↔ (fs.all fun g => decide ((u.grant g).owner = (u.grant f).owner)) = false := by
  simp only [List.all_eq_false, decide_eq_true_eq]
  constructor
  · rintro ⟨g, hg, h, hh, differ⟩
    by_contra agree
    push Not at agree
    have first (x : FlyerId) (mem : x ∈ f :: fs) : (u.grant x).owner = (u.grant f).owner :=
      (List.mem_cons.mp mem).elim (fun same => by rw [same]) (agree x)
    exact differ ((first g hg).trans (first h hh).symm)
  · rintro ⟨g, mem, differ⟩
    exact ⟨g, List.mem_cons_of_mem f mem, f, List.mem_cons_self, differ⟩

theorem foreignAmong_cons_iff {f : FlyerId} {fs : List FlyerId} (agree : ¬MixedAmong u (f :: fs)) :
    ForeignAmong q u (f :: fs) ↔ editGrant q f u = false := by
  rw [editGrant_eq_false_iff]
  constructor
  · rintro ⟨g, mem, foreign⟩
    have same : (u.grant g).owner = (u.grant f).owner := by
      by_contra differ
      exact agree ⟨g, mem, f, List.mem_cons_self, differ⟩
    rwa [same] at foreign
  · exact fun foreign => ⟨f, List.mem_cons_self, foreign⟩

theorem formationRefusal_cons {f : FlyerId} {fs : List FlyerId} (rest : ¬BusyAmong u (f :: fs)) :
    formationRefusal q u (f :: fs) =
      if (fs.all fun g => decide ((u.grant g).owner = (u.grant f).owner)) = false then some .owned
      else if editGrant q f u = false then some .notOwner else none :=
  if_neg fun busy => rest (all_editable_eq_false_iff.mp busy)

theorem formationRefusal_owned {fs : List FlyerId} (rest : ¬BusyAmong u fs) (mixed : MixedAmong u fs) :
    formationRefusal q u fs = some .owned := by
  cases fs with
  | nil =>
    obtain ⟨g, mem, -⟩ := mixed
    cases mem
  | cons f fs => rw [formationRefusal_cons rest, if_pos (mixedAmong_cons_iff.mp mixed)]

theorem formationRefusal_notOwner {fs : List FlyerId} (rest : ¬BusyAmong u fs) (agree : ¬MixedAmong u fs)
    (foreign : ForeignAmong q u fs) : formationRefusal q u fs = some .notOwner := by
  cases fs with
  | nil =>
    obtain ⟨g, mem, -⟩ := foreign
    cases mem
  | cons f fs =>
    rw [formationRefusal_cons rest, if_neg fun mixed => agree (mixedAmong_cons_iff.mpr mixed),
      if_pos ((foreignAmong_cons_iff agree).mp foreign)]

theorem formationRefusal_none {fs : List FlyerId} (rest : ¬BusyAmong u fs) (agree : ¬MixedAmong u fs)
    (own : ¬ForeignAmong q u fs) : formationRefusal q u fs = none := by
  cases fs with
  | nil => rfl
  | cons f fs =>
    rw [formationRefusal_cons rest, if_neg fun mixed => agree (mixedAmong_cons_iff.mpr mixed),
      if_neg fun foreign => own ((foreignAmong_cons_iff agree).mpr foreign)]

/-- What a new record makes of a follower, from its leader's record and its offset (R43). -/
def alignedTo (l : Flyer) (o : Vec3) (x : Flyer) : Flyer :=
  if l.located = true ∧ x.point = l.point.map fun p => p.add (mmToNano o) then x
  else { dropLocated x with state := if x.state = .parked then .unlocated else x.state }

theorem flyer_alignFollower (l : FlyerId) (e : FlyerId × Vec3) (s : State) (g : FlyerId) :
    (alignFollower l e s).flyer g = if g = e.1 then alignedTo (s.flyer l) e.2 (s.flyer e.1) else s.flyer g := by
  have stays : s.flyer g = if g = e.1 then s.flyer e.1 else s.flyer g := by
    split
    · next same => rw [same]
    · rfl
  unfold alignFollower alignedTo
  simp only [Bool.and_eq_true, decide_eq_true_eq]
  split
  · exact stays
  · exact flyer_modFlyer_eq ..

theorem alignFollower_flyersOnly (l : FlyerId) (e : FlyerId × Vec3) (s : State) : FlyersOnly s (alignFollower l e s) := by
  unfold alignFollower
  dsimp only
  split
  · exact FlyersOnly.refl s
  · exact modFlyer_flyersOnly ..

/-- The followers of a record aligned one by one: each by the leader's record and its own. -/
theorem flyer_forEach_alignFollower {l : FlyerId} {es : List (FlyerId × Vec3)} (nodup : (es.map fun e => e.1).Nodup)
    (apart : l ∉ es.map fun e => e.1) (s : State) (g : FlyerId) :
    ((∀ o, (g, o) ∉ es) → (forEach es (alignFollower l) s).flyer g = s.flyer g) ∧
      ∀ o, (g, o) ∈ es → (forEach es (alignFollower l) s).flyer g = alignedTo (s.flyer l) o (s.flyer g) := by
  induction es generalizing s with
  | nil => exact ⟨fun _ => rfl, fun _ mem => nomatch mem⟩
  | cons e es ih =>
    simp only [List.map_cons, List.nodup_cons, List.mem_cons, not_or] at nodup apart
    obtain ⟨others, ones⟩ := ih nodup.2 apart.2 (alignFollower l e s)
    have leader : (alignFollower l e s).flyer l = s.flyer l := by rw [flyer_alignFollower, if_neg apart.1]
    refine ⟨fun none => ?_, fun o mem => ?_⟩
    · rw [forEach_cons, others fun o later => none o (List.mem_cons_of_mem e later), flyer_alignFollower, if_neg]
      exact fun same => none e.2 (by rw [same]; exact List.mem_cons_self)
    · rw [forEach_cons]
      rcases List.mem_cons.mp mem with rfl | later
      · rw [others fun _ later => nodup.1 (List.mem_map.mpr ⟨_, later, rfl⟩), flyer_alignFollower, if_pos rfl]
      · have other : g ≠ e.1 := fun same => nodup.1 (same ▸ List.mem_map_of_mem (f := Prod.fst) later)
        rw [ones o later, leader, flyer_alignFollower, if_neg other]

theorem setFormationBody_none {fields : FormationFields} (bad : formationOf fields = none) (k : Nat) :
    setFormationBody q k fields u = refuse .badValue [] u := by
  simp only [setFormationBody, bad]
  cases formationNamed k <;> rfl

/-- The flyers that a formation's record names, none without a record. -/
def recordFlyers (u : State) (n : FormationId) : List FlyerId :=
  match u.formation n with
  | some o => o.flyers.map fun x => x.1
  | none => []

theorem setFormationBody_some {fields : FormationFields} {m : Formation} (named : formationOf fields = some m) :
    setFormationBody q n.val fields u =
      if formationUsable u n m = false then refuse .badValue [] u
      else if u.image = .saving then refuse .busy [] u
      else match formationRefusal q u ((m.flyers.map fun x => x.1) ++ recordFlyers u n) with
        | some r => refuse r [] u
        | none => done (forEach m.followers (alignFollower m.leader) (u.setFormation n (some m))) := by
  simp only [setFormationBody, formationNamed_val, named, saving_iff, recordFlyers]
  cases u.formation n <;> simp only [List.map_append, List.map_nil] <;> rfl

theorem clearFormationBody_val :
    clearFormationBody q n.val u =
      if u.image = .saving then refuse .busy [] u
      else match u.formation n with
        | none => done u
        | some m =>
          match formationRefusal q u (m.flyers.map fun x => x.1) with
          | some r => refuse r [] u
          | none => done (u.setFormation n none) := by
  simp only [clearFormationBody, formationNamed_val, saving_iff] <;> rfl

/-- Settles O18: the rows of R43 and R44, and each follower of a new record by its leader. -/
theorem formationRecordsAreReplacedAndCleared : Obligations.FormationRecordsAreReplacedAndCleared := by
  unfold Obligations.FormationRecordsAreReplacedAndCleared
  intro q n fields s taken
  have setting := exec_setFormation q n.val s fields
  have clearing := exec_clearFormation q n.val s
  refine ⟨fun bad => taken.refused setting (setFormationBody_none bad n.val), fun m named => ?_, fun saves => ?_,
    fun idle => ⟨fun empty => ?_, fun m stands => ?_⟩⟩
  · have row := setFormationBody_some (q := q) (n := n) (u := arrived q s) named
    refine ⟨fun unusable => taken.refused setting (row.trans (if_pos unusable)), fun usable => ?_⟩
    rw [if_neg (by simp [usable])] at row
    refine ⟨fun saves => taken.refused setting (row.trans (if_pos saves)), fun idle => ?_⟩
    rw [if_neg idle] at row
    refine ⟨fun busy => ?_, fun rest => ⟨fun mixed => ?_, fun agree => ⟨fun foreign => ?_, fun own => ?_⟩⟩⟩
    · rw [formationRefusal_busy (fs := (m.flyers.map fun x => x.1) ++ recordFlyers (arrived q s) n) busy] at row
      exact taken.refused setting row
    · rw [formationRefusal_owned (fs := (m.flyers.map fun x => x.1) ++ recordFlyers (arrived q s) n) rest mixed] at row
      exact taken.refused setting row
    · rw [formationRefusal_notOwner (fs := (m.flyers.map fun x => x.1) ++ recordFlyers (arrived q s) n) rest agree foreign] at row
      exact taken.refused setting row
    · rw [formationRefusal_none (fs := (m.flyers.map fun x => x.1) ++ recordFlyers (arrived q s) n) rest agree own] at row
      obtain ⟨F, shape⟩ := FlyersOnly.forEach (alignFollower_flyersOnly m.leader) m.followers
        ((arrived q s).setFormation n (some m))
      have nodup := formationOf_nodup named
      simp only [Formation.flyers, List.map_cons, List.nodup_cons] at nodup
      have aligned := flyer_forEach_alignFollower nodup.2 nodup.1 ((arrived q s).setFormation n (some m))
      rw [shape] at row aligned
      exact ⟨F, taken.completed setting row, aligned⟩
  · exact taken.refused clearing (clearFormationBody_val.trans (if_pos saves))
  · have row := (clearFormationBody_val (q := q) (n := n) (u := arrived q s)).trans (if_neg idle)
    rw [empty] at row
    exact taken.completed clearing row
  · have row := (clearFormationBody_val (q := q) (n := n) (u := arrived q s)).trans (if_neg idle)
    dsimp only
    simp only [stands] at row ⊢
    refine ⟨fun busy => ?_, fun rest => ⟨fun mixed => ?_, fun agree => ⟨fun foreign => ?_, fun own => ?_⟩⟩⟩
    · rw [formationRefusal_busy busy] at row
      exact taken.refused clearing row
    · rw [formationRefusal_owned rest mixed] at row
      exact taken.refused clearing row
    · rw [formationRefusal_notOwner rest agree foreign] at row
      exact taken.refused clearing row
    · rw [formationRefusal_none rest agree own] at row
      exact taken.completed clearing row

end Sys2Proof.Machine
end

section
/-! The slot requests and the cue segments by their rows (R65 to R75, R149, R150). -/

namespace Sys2Proof.Machine

variable {q : Req} {s t u : State} {p : PortId} {a b : Nat} {st : Station} {seg : SegmentFields} {x : Upload} {k : RigKind}

/-! ## WRITE_SLOTS and SWAP_SLOTS (R149, R150) -/

theorem slotNamed_eq_none (out : 12 ≤ a) (named : a ≠ 255) : slotNamed a = none := by
  rw [slotNamed, if_neg named, axisNamed_of_le out, Option.map_none]

/-- Only 255 names the empty slot. -/
theorem slotNamed_eq_some_none (empty : slotNamed a = some none) : a = 255 := by
  unfold slotNamed at empty
  split at empty
  · assumption
  · cases named : axisNamed a <;> simp [named] at empty

theorem slotsOf_eq_none (bad : (12 ≤ a ∧ a ≠ 255) ∨ (12 ≤ b ∧ b ≠ 255) ∨ (a = b ∧ a ≠ 255)) : slotsOf a b = none := by
  rcases bad with ⟨out, named⟩ | ⟨out, named⟩ | ⟨rfl, named⟩
  · rw [slotsOf, slotNamed_eq_none out named]
  · rw [slotsOf, slotNamed_eq_none out named]
    cases slotNamed a <;> rfl
  · unfold slotsOf
    split
    · next i j hi hj =>
      cases hi.symm.trans hj
      cases i with
      | none => exact absurd (slotNamed_eq_some_none hi) named
      | some i => exact if_pos (by simp [Slots.doubled])
    · rfl

theorem writeSlotsBody_unnamed (bad : slotsOf a b = none) (n : Nat) : writeSlotsBody n a b u = refuse .badValue [] u := by
  unfold writeSlotsBody
  rw [bad]
  cases portNamed n <;> rfl

theorem writeSlotsBody_val {x : Slots} (named : slotsOf a b = some x) :
    (∀ i g, stagedElsewhere u p x = some (i, g) →
      writeSlotsBody p.val a b u = refuse .badValue [⟨.axis, i.val⟩, ⟨.port, g.val⟩] u) ∧
    (stagedElsewhere u p x = none →
      writeSlotsBody p.val a b u =
        if u.image = .saving then refuse .busy [] u else done (u.setPort p { u.port p with shadow := x })) := by
  simp only [writeSlotsBody, portNamed_val, named, saving_iff]
  refine ⟨fun i g staged => ?_, fun free => ?_⟩
  · simp only [staged]
  · simp only [free]
    rfl

theorem swapSlotsBody_val :
    swapSlotsBody p.val u =
      if u.image = .saving then refuse .busy [] u else done (u.setPort p { u.port p with swap := true }) := by
  simp only [swapSlotsBody, portNamed_val, saving_iff]
  rfl

/-- Settles O21: the rows of R149 and R150. -/
theorem slotsAreStagedAndTheSwapIsMarked : Obligations.SlotsAreStagedAndTheSwapIsMarked := by
  unfold Obligations.SlotsAreStagedAndTheSwapIsMarked
  intro q p a b s taken
  have writing (n : Nat) := exec_writeSlots q n a s b
  have swapping (n : Nat) := exec_swapSlots q n s
  refine ⟨fun n out => ⟨taken.refused (writing n) (writeSlotsBody_of_le out a b),
      taken.refused (swapping n) (swapSlotsBody_of_le out)⟩,
    fun bad => taken.refused (writing p) (writeSlotsBody_unnamed (slotsOf_eq_none bad) p), fun x named => ?_,
    fun saves => taken.refused (swapping p) (swapSlotsBody_val.trans (if_pos saves)),
    fun idle => taken.completed (swapping p) (swapSlotsBody_val.trans (if_neg idle))⟩
  obtain ⟨elsewhere, free⟩ := writeSlotsBody_val (u := arrived q s) (p := p) named
  exact ⟨fun i g staged => taken.refused (writing p) (elsewhere i g staged), fun apart =>
    ⟨fun saves => taken.refused (writing p) ((free apart).trans (if_pos saves)),
      fun idle => taken.completed (writing p) ((free apart).trans (if_neg idle))⟩⟩

/-! ## Uploads set and rewound (R66, R67, R75) -/

theorem setUpload_setUpload (st : Station) (x y : Option Upload) (s : State) :
    setUpload st x (setUpload st y s) = setUpload st x s := by
  cases st <;> rfl

theorem rewind_setUpload (st : Station) (y : Option Upload) (s : State) : rewind st (setUpload st y s) = rewind st s :=
  setUpload_setUpload st none y s

theorem rewind_rewind (st : Station) (s : State) : rewind st (rewind st s) = rewind st s := rewind_setUpload st none s

theorem inReach_setUpload (y : Option Upload) (n : Nat) : inReach (setUpload st y s) n = inReach s n := by
  cases st <;> rfl

theorem poolFree_rewind :
    poolFree (rewind st s) = 4096 - (placesUsed s - uploadLength (s.station st).upload) := by
  have places := placesUsed_setUpload st none s
  rw [uploadLength_none] at places
  rw [poolFree_eq, rewind]
  exact congrArg _ (by omega)

theorem refuseSegment_eq (r : ResultCode) (items : List Item) : refuseSegment st r items s = refuse r items (rewind st s) :=
  rfl

theorem refuseSegment_setUpload (y : Option Upload) (r : ResultCode) (items : List Item) :
    refuseSegment st r items (setUpload st y s) = refuseSegment st r items s := by
  rw [refuseSegment_eq, refuseSegment_eq, rewind_setUpload]

/-! ## A segment taken into its upload (R70 to R74) -/

theorem firstFailing_eq_none_iff {α : Type} {ok : α → Bool} {l : List α} (i : Nat) :
    firstFailing ok i l = none ↔ ∀ y ∈ l, ok y = true := by
  induction l generalizing i with
  | nil => simp [firstFailing]
  | cons y l ih =>
    unfold firstFailing
    split <;> simp_all

theorem firstFailing_split {α : Type} {ok : α → Bool} {before : List α} {y : α} (after : List α)
    (good : ∀ z ∈ before, ok z = true) (bad : ok y = false) (i : Nat) :
    firstFailing ok i (before ++ y :: after) = some (i + before.length) := by
  induction before generalizing i with
  | nil => simp [firstFailing, bad]
  | cons z before ih =>
    obtain ⟨first, rest⟩ := List.forall_mem_cons.mp good
    rw [List.cons_append, firstFailing, if_pos first, ih rest, List.length_cons]
    congr 1
    omega

theorem takeSegment_badRecord {before after : List CueRecord} {r : CueRecord} (split : seg.recs = before ++ r :: after)
    (good : ∀ b ∈ before, recordInRange x.kind b = true) (bad : recordInRange x.kind r = false) :
    takeSegment st x seg t = refuseSegment st .badValue [⟨.recordIndex, x.recs.length + before.length⟩] t := by
  unfold takeSegment
  rw [split, firstFailing_split after good bad]

theorem takeSegment_full (good : ∀ r ∈ seg.recs, recordInRange x.kind r = true) (full : poolFree t < seg.recs.length) :
    takeSegment st x seg t = refuseSegment st .storeFull [⟨.poolFree, poolFree t⟩] t := by
  unfold takeSegment
  rw [(firstFailing_eq_none_iff _).mpr good]
  exact if_pos full

/-- The upload with the segment's records at its end. -/
def extended (x : Upload) (seg : SegmentFields) : Upload := { x with next := x.next + 1, recs := x.recs ++ seg.recs }

theorem takeSegment_of_room (good : ∀ r ∈ seg.recs, recordInRange x.kind r = true) (room : seg.recs.length ≤ poolFree t) :
    takeSegment st x seg t =
      if seg.last then completeUpload st (extended x seg) (setUpload st (some (extended x seg)) t)
      else (setUpload st (some (extended x seg)) t, ⟨.accepted, .empty⟩) := by
  unfold takeSegment
  rw [(firstFailing_eq_none_iff _).mpr good]
  exact if_neg room.not_gt

/-- The completion checks on an upload that has just been set (R72 to R74). -/
theorem completeUpload_setUpload (y : Option Upload) :
    completeUpload st x (setUpload st y t) =
      if x.recs.length ≠ x.total then
        refuseSegment st .uploadMismatch [⟨.recordsSoFar, x.recs.length⟩, ⟨.recordTotal, x.total⟩] t
      else match unbalanced 0 [] x.recs with
      | some i => refuseSegment st .badValue [⟨.recordIndex, i⟩] t
      | none =>
        if (cueOf t.dir x.num).isSome = false ∧ Config.directoryPlaces ≤ t.dir.length then
          refuseSegment st .storeFull [⟨.directory, 0⟩] t
        else if inReach t x.num then refuseSegment st .inUse [⟨.cue, x.num⟩] t
        else (setUpload st none { t with dir := installCue { num := x.num, kind := x.kind, recs := x.recs } t.dir },
          ⟨.done, .replaced (cueOf t.dir x.num).isSome⟩) := by
  have installed (D : List Cue) : setUpload st none { setUpload st y t with dir := D } =
      setUpload st none { t with dir := D } := by cases st <;> rfl
  simp only [completeUpload, refuseSegment_setUpload, dir_setUpload, inReach_setUpload, installed] <;> rfl

/-! ## The form checks and the order of segments (R67, R68) -/

/-- The form that every segment of an upload has (R68). -/
structure SegmentForm (seg : SegmentFields) (k : RigKind) : Prop where
  kind : rigKindNamed seg.kind = some k
  num : 1 ≤ seg.num ∧ seg.num ≤ 200
  total : 1 ≤ seg.total ∧ seg.total ≤ 250
  index : seg.index ≤ 249
  records : 1 ≤ seg.recs.length ∧ seg.recs.length ≤ 8

theorem segmentNumbers_iff :
    (within 1 200 seg.num && within 1 250 seg.total && within 0 249 seg.index && within 1 8 seg.recs.length) = true ↔
      (1 ≤ seg.num ∧ seg.num ≤ 200) ∧ (1 ≤ seg.total ∧ seg.total ≤ 250) ∧ seg.index ≤ 249 ∧
        1 ≤ seg.recs.length ∧ seg.recs.length ≤ 8 := by
  simp only [Bool.and_eq_true, within_eq_true_iff]
  omega

theorem cueSegmentBody_of_form (form : SegmentForm seg k) :
    cueSegmentBody st seg u = if seg.first then firstSegment st k seg u else laterSegment st k seg u := by
  unfold cueSegmentBody
  rw [form.kind]
  exact if_neg (by rw [segmentNumbers_iff.mpr ⟨form.num, form.total, form.index, form.records⟩]; exact Bool.noConfusion)

theorem cueSegmentBody_badForm (bad : rigKindNamed seg.kind = none ∨ seg.num = 0 ∨ 200 < seg.num ∨ seg.total = 0 ∨
    250 < seg.total ∨ 249 < seg.index ∨ seg.recs = [] ∨ 8 < seg.recs.length) :
    cueSegmentBody st seg u = refuseSegment st .badValue [] u := by
  unfold cueSegmentBody
  split
  · rfl
  · next kind named =>
    refine if_pos ?_
    rw [← Bool.not_eq_true, segmentNumbers_iff]
    have empty : seg.recs = [] ↔ seg.recs.length = 0 := List.length_eq_zero_iff.symm
    rw [named, empty] at bad
    simp only [reduceCtorEq, false_or] at bad
    omega

theorem firstSegment_of_index (index : seg.index = 0) :
    firstSegment st k seg u =
      if seg.total < seg.recs.length then refuseSegment st .uploadMismatch [] (rewind st u)
      else takeSegment st { num := seg.num, total := seg.total, kind := k, next := 0, recs := [] } seg (rewind st u) :=
  if_neg (not_not_intro index)

theorem laterSegment_of_upload (open_ : (u.station st).upload = some x) :
    laterSegment st k seg u =
      if x.num ≠ seg.num ∨ x.total ≠ seg.total ∨ x.kind ≠ k then refuseSegment st .uploadMismatch [] u
      else if seg.index ≠ x.next then refuseSegment st .uploadOrder [⟨.expectedIndex, x.next⟩] u
      else if x.total < x.recs.length + seg.recs.length then refuseSegment st .uploadMismatch [] u
      else takeSegment st x seg u := by
  rw [laterSegment, open_]

/-- A segment that continues its upload is taken into it. -/
theorem laterSegment_continues (open_ : (u.station st).upload = some x) (num : x.num = seg.num)
    (total : x.total = seg.total) (kind : x.kind = k) (order : x.next = seg.index)
    (fits : x.recs.length + seg.recs.length ≤ x.total) : laterSegment st k seg u = takeSegment st x seg u := by
  rw [laterSegment_of_upload open_, if_neg (by simp [num, total, kind]), if_neg (not_not_intro order.symm),
    if_neg fits.not_gt]

/-! ## CUE_SEGMENT (R67 to R75) -/

theorem segmentAnswered {r : ResultCode} {b : ReplyBody} {v : State} (taken : Taken q s)
    (row : cueSegmentBody q.st seg (arrived q s) = (v, ⟨r, b⟩)) : Answered (.cueSegment q seg) q 0x30 r b s v :=
  (exec_cueSegment q s seg).trans (served_of_room taken.running taken.room (by rw [if_pos taken.fits, row]))

/-- Settles O22: an opening segment and a continuing one, each with its row. -/
theorem segmentsAreCollectedInTheUpload : Obligations.SegmentsAreCollectedInTheUpload := by
  unfold Obligations.SegmentsAreCollectedInTheUpload
  intro q seg k s taken kind num₁ num₂ total₁ total₂ index recs₁ recs₂ middle good
  have form : SegmentForm seg k := ⟨kind, ⟨num₁, num₂⟩, ⟨total₁, total₂⟩, index, recs₁, recs₂⟩
  have body := cueSegmentBody_of_form (st := q.st) (u := arrived q s) form
  refine ⟨fun first start fits room => segmentAnswered taken ?_,
    fun x later open_ num total kind order fits room => segmentAnswered taken ?_⟩
  · rw [body, if_pos first, firstSegment_of_index start, if_neg fits.not_gt,
      takeSegment_of_room good (by rw [poolFree_rewind]; omega), middle, if_neg Bool.noConfusion, rewind,
      setUpload_setUpload]
    rfl
  · rw [body, later, if_neg Bool.noConfusion, laterSegment_continues open_ num total kind order fits,
      takeSegment_of_room (kind ▸ good) (by rw [poolFree_eq]; exact Nat.le_sub_of_add_le' room), middle,
      if_neg Bool.noConfusion]
    rfl

theorem not_directoryFull {n : Nat} (place : (cueOf t.dir n).isSome = true ∨ t.dir.length < 128) :
    ¬((cueOf t.dir n).isSome = false ∧ Config.directoryPlaces ≤ t.dir.length) := fun full =>
  place.elim (fun found => by rw [full.1] at found; cases found) full.2.not_gt

/-- What a LAST segment that completes its upload leaves, from the upload it is taken into. -/
theorem takeSegment_installs (good : ∀ r ∈ seg.recs, recordInRange x.kind r = true)
    (room : seg.recs.length ≤ poolFree t) (last : seg.last = true) (total : x.recs.length + seg.recs.length = x.total)
    (balanced : unbalanced 0 [] (x.recs ++ seg.recs) = none)
    (place : (cueOf t.dir x.num).isSome = true ∨ t.dir.length < 128) (free : inReach t x.num = false) :
    takeSegment st x seg t =
      (setUpload st none { t with dir := installCue { num := x.num, kind := x.kind, recs := x.recs ++ seg.recs } t.dir },
        ⟨.done, .replaced (cueOf t.dir x.num).isSome⟩) := by
  have whole : ¬(extended x seg).recs.length ≠ (extended x seg).total := by
    simp only [extended, List.length_append, total, ne_eq, not_true_eq_false, not_false_eq_true]
  rw [takeSegment_of_room good room, if_pos last, completeUpload_setUpload, if_neg whole]
  simp only [extended, balanced, if_neg (not_directoryFull place), free, Bool.false_eq_true, if_false]

/-- Settles O23: the completing segment, whether it opens its upload or continues it, and the directory after it. -/
theorem completedUploadIsInstalled : Obligations.CompletedUploadIsInstalled := by
  unfold Obligations.CompletedUploadIsInstalled
  intro q seg x s taken
  dsimp only
  intro kind num₁ num₂ total₁ total₂ index recs₁ recs₂ last good shape total balanced place free order
  have form : SegmentForm seg x.kind := ⟨kind, ⟨num₁, num₂⟩, ⟨total₁, total₂⟩, index, recs₁, recs₂⟩
  have body := cueSegmentBody_of_form (st := q.st) (u := arrived q s) form
  let c : Cue := { num := x.num, kind := x.kind, recs := x.recs ++ seg.recs }
  refine ⟨installCue c (arrived q s).dir, segmentAnswered taken ?_, installCue_pairwise c order, ?_, fun n other => ?_⟩
  · rcases shape with ⟨first, start, num, whole, empty, room⟩ | ⟨later, open_, num, whole, next, room⟩
    · obtain ⟨xnum, xtotal, xkind, xnext, xrecs⟩ := x
      simp only at num whole empty
      subst num whole empty
      have fits : seg.recs.length ≤ seg.total := (Nat.zero_add _ ▸ total).le
      have free_ : seg.recs.length ≤ poolFree (rewind q.st (arrived q s)) := by
        rw [poolFree_rewind]
        exact Nat.le_sub_of_add_le' room
      rw [body, if_pos first, firstSegment_of_index start, if_neg fits.not_gt, takeSegment_installs
        (x := { num := seg.num, total := seg.total, kind := xkind, next := 0, recs := [] }) good free_ last total balanced (by rw [rewind, dir_setUpload]; exact place)
        (by rw [rewind, inReach_setUpload]; exact free)]
      simp only [rewind, dir_setUpload]
      cases q.st <;> rfl
    · rw [body, later, if_neg Bool.noConfusion, laterSegment_continues open_ num whole rfl next total.le,
        takeSegment_installs good (by rw [poolFree_eq]; exact Nat.le_sub_of_add_le' room) last total balanced place free]
      rfl
  · rw [cueOf_installCue, if_pos rfl]
  · rw [cueOf_installCue, if_neg (Ne.symm other)]

/-! ## The rows that refuse a segment (R67, R68, R70 to R73) -/

/-- An answer that, where it is a refusal, leaves the station without its upload and changes nothing else. -/
def RefusalRewinds (st : Station) (u : State) (out : State × Reply) : Prop :=
  out.2.result.isRefusal = true → out.1 = rewind st u

theorem refuseSegment_rewinds {r : ResultCode} {items : List Item} (same : rewind st t = rewind st u) :
    RefusalRewinds st u (refuseSegment st r items t) := fun _ => same

theorem completeUpload_rewinds (same : rewind st t = rewind st u) :
    RefusalRewinds st u (completeUpload st x t) := by
  unfold completeUpload
  split
  · exact refuseSegment_rewinds same
  · split
    · exact refuseSegment_rewinds same
    · dsimp only
      split
      · exact refuseSegment_rewinds same
      · split
        · exact refuseSegment_rewinds same
        · exact fun refusal => nomatch refusal

theorem takeSegment_rewinds (same : rewind st t = rewind st u) : RefusalRewinds st u (takeSegment st x seg t) := by
  unfold takeSegment
  split
  · exact refuseSegment_rewinds same
  · split
    · exact refuseSegment_rewinds same
    · dsimp only
      split
      · exact completeUpload_rewinds ((rewind_setUpload ..).trans same)
      · exact fun refusal => nomatch refusal

theorem cueSegmentBody_rewinds : RefusalRewinds st u (cueSegmentBody st seg u) := by
  have again := rewind_rewind st u
  unfold cueSegmentBody
  split
  · exact refuseSegment_rewinds rfl
  · split
    · exact refuseSegment_rewinds rfl
    · split
      · unfold firstSegment
        dsimp only
        split
        · exact refuseSegment_rewinds again
        · split
          · exact refuseSegment_rewinds again
          · exact takeSegment_rewinds again
      · unfold laterSegment
        split
        · exact refuseSegment_rewinds rfl
        · split
          · exact refuseSegment_rewinds rfl
          · split
            · exact refuseSegment_rewinds rfl
            · split
              · exact refuseSegment_rewinds rfl
              · exact takeSegment_rewinds rfl

/-- A CUE_SEGMENT is refused with the items it names, and its station is left without an upload (R67). -/
def SegmentRefused (q : Req) (seg : SegmentFields) (s : State) (r : ResultCode) (items : List Item) : Prop :=
  Refused (.cueSegment q seg) q 0x30 r items s (rewind q.st (arrived q s))

theorem segmentRefused {r : ResultCode} {items : List Item} (taken : Taken q s)
    (row : cueSegmentBody q.st seg (arrived q s) = refuseSegment q.st r items t)
    (same : rewind q.st t = rewind q.st (arrived q s)) : SegmentRefused q seg s r items :=
  segmentAnswered taken (by rw [row, ← same]; rfl)

/-- The rows from the record checks on, for a segment that is taken into its upload (R70 to R73). -/
theorem takenRows (taken : Taken q s) (body : cueSegmentBody q.st seg (arrived q s) = takeSegment q.st x seg t)
    (same : rewind q.st t = rewind q.st (arrived q s)) (dir : t.dir = (arrived q s).dir)
    (reach : inReach t x.num = inReach (arrived q s) x.num) :
    (∀ before r after, seg.recs = before ++ r :: after → (∀ b ∈ before, recordInRange x.kind b = true) →
      recordInRange x.kind r = false →
      SegmentRefused q seg s .badValue [⟨.recordIndex, x.recs.length + before.length⟩]) ∧
    ((∀ r ∈ seg.recs, recordInRange x.kind r = true) →
      (poolFree t < seg.recs.length → SegmentRefused q seg s .storeFull [⟨.poolFree, poolFree t⟩]) ∧
      (seg.recs.length ≤ poolFree t → seg.last = true →
        ((x.recs ++ seg.recs).length ≠ x.total → SegmentRefused q seg s .uploadMismatch
          [⟨.recordsSoFar, (x.recs ++ seg.recs).length⟩, ⟨.recordTotal, x.total⟩]) ∧
        ((x.recs ++ seg.recs).length = x.total →
          (∀ i, unbalanced 0 [] (x.recs ++ seg.recs) = some i →
            SegmentRefused q seg s .badValue [⟨.recordIndex, i⟩]) ∧
          (unbalanced 0 [] (x.recs ++ seg.recs) = none →
            (cueOf (arrived q s).dir x.num = none → 128 ≤ (arrived q s).dir.length →
              SegmentRefused q seg s .storeFull [⟨.directory, 0⟩]) ∧
            ((cueOf (arrived q s).dir x.num).isSome = true ∨ (arrived q s).dir.length < 128 →
              inReach (arrived q s) x.num = true → SegmentRefused q seg s .inUse [⟨.cue, x.num⟩]))))) := by
  refine ⟨fun before r after split good bad => segmentRefused taken (body.trans (takeSegment_badRecord split good bad)) same,
    fun good => ⟨fun full => segmentRefused taken (body.trans (takeSegment_full good full)) same, fun room last => ?_⟩⟩
  have complete := body.trans (takeSegment_of_room (st := q.st) good room)
  rw [if_pos last, completeUpload_setUpload] at complete
  refine ⟨fun short => segmentRefused taken (complete.trans (if_pos short)) same, fun whole => ?_⟩
  rw [if_neg (show ¬(extended x seg).recs.length ≠ (extended x seg).total from not_not_intro whole)] at complete
  refine ⟨fun i named => segmentRefused taken (complete.trans (by simp only [extended, named])) same, fun balanced => ?_⟩
  simp only [extended, balanced] at complete
  rw [← dir, ← reach]
  refine ⟨fun absent full => segmentRefused taken (complete.trans (if_pos ⟨by rw [absent]; rfl, full⟩)) same,
    fun place held => segmentRefused taken
      (complete.trans ((if_neg (not_directoryFull place)).trans (if_pos held))) same⟩

/-- Settles O24: every refusal rewinds, and each row in its order. -/
theorem refusedSegmentRewindsTheUpload : Obligations.RefusedSegmentRewindsTheUpload := by
  unfold Obligations.RefusedSegmentRewindsTheUpload
  refine ⟨fun q seg s runs room => ?_, fun q seg s taken => ?_⟩
  · cases fits : q.fits with
    | true =>
      exact ⟨_, _, _, segmentAnswered ⟨runs, fits, room⟩ rfl, cueSegmentBody_rewinds⟩
    | false =>
      refine ⟨.badFrame, .detail [], rewind q.st (arrived q s),
        (exec_cueSegment q s seg).trans (served_of_room runs room ?_), fun _ => rfl⟩
      rw [fits]
      rfl
  · refine ⟨fun bad => segmentRefused taken (cueSegmentBody_badForm bad) rfl,
      fun k kind num₁ num₂ total₁ total₂ index recs₁ recs₂ => ?_⟩
    have form : SegmentForm seg k := ⟨kind, ⟨num₁, num₂⟩, ⟨total₁, total₂⟩, index, recs₁, recs₂⟩
    have body := cueSegmentBody_of_form (st := q.st) (u := arrived q s) form
    have again := rewind_rewind q.st (arrived q s)
    refine ⟨fun first => ?_, fun later => ?_⟩
    · rw [if_pos first] at body
      refine ⟨fun index => segmentRefused taken (body.trans (if_pos index)) again, fun start => ?_⟩
      rw [firstSegment_of_index start] at body
      refine ⟨fun long => segmentRefused taken (body.trans (if_pos long)) again, fun fits => ?_⟩
      have rows := takenRows taken (body.trans (if_neg fits.not_gt)) again (dir_setUpload ..) (inReach_setUpload ..)
      rw [poolFree_rewind] at rows
      exact rows
    · rw [later, if_neg Bool.noConfusion] at body
      refine ⟨fun none => segmentRefused taken (body.trans (by rw [laterSegment, none])) rfl, fun x open_ => ?_⟩
      rw [laterSegment_of_upload open_] at body
      refine ⟨fun other => segmentRefused taken (body.trans (if_pos other)) rfl, fun num total kind => ?_⟩
      rw [if_neg (by simp [num, total, kind])] at body
      refine ⟨fun order => segmentRefused taken (body.trans (if_pos order)) rfl, fun order => ?_⟩
      rw [if_neg (not_not_intro order)] at body
      refine ⟨fun long => segmentRefused taken (body.trans (if_pos long)) rfl, fun fits => ?_⟩
      have rows := takenRows taken (body.trans (if_neg fits.not_gt)) rfl rfl rfl
      rw [poolFree_eq] at rows
      exact rows

end Sys2Proof.Machine
end

section
/-! Requests and events by their rows: HOLD, RESUME and STOP_FLYER, the record interpreter record by record, all-stop and
the stop chain, timing, saves and their flash operations, and the resets (R39, R42, R100, R101, R162, R166, R167, R191,
R192, R196 to R198). -/

namespace Sys2Proof.Machine

variable {q : Req} {s t u v : State} {f g : FlyerId} {n m : Nat}

/-! ## The first flyer of a kind -/

/-- The first of a list in order that meets a test is the least that does. -/
theorem find?_eq_some_iff_least {α : Type} [LinearOrder α] {p : α → Bool} {l : List α} (order : l.Pairwise (· < ·))
    (all : ∀ x, x ∈ l) (x : α) : l.find? p = some x ↔ p x = true ∧ ∀ y, y < x → p y = false := by
  rw [List.find?_eq_some_iff_append]
  refine and_congr_right fun _ => ⟨?_, fun least => ?_⟩
  · rintro ⟨before, after, rfl, none⟩ y less
    rcases List.mem_append.mp (all y) with early | late
    · simpa using none y early
    · obtain ⟨-, rest, -⟩ := List.pairwise_append.mp order
      rcases List.mem_cons.mp late with rfl | later
      · exact absurd less (lt_irrefl _)
      · exact absurd ((List.pairwise_cons.mp rest).1 y later) less.asymm
  · obtain ⟨before, after, rfl⟩ := List.append_of_mem (all x)
    refine ⟨before, after, rfl, fun y early => ?_⟩
    rw [least y ((List.pairwise_append.mp order).2.2 y early x List.mem_cons_self)]
    rfl

theorem allFlyers_find?_eq_some_iff {p : FlyerId → Bool} (f : FlyerId) :
    allFlyers.find? p = some f ↔ p f = true ∧ ∀ g, g < f → p g = false :=
  find?_eq_some_iff_least (by decide) mem_allFlyers f

/-! ## HOLD, RESUME and STOP_FLYER (R39, R42, R121, R122, R135) -/

/-- Settles O29: each request's branch for the flyer's state. -/
theorem holdResumeAndStopActByFlyerState : Obligations.HoldResumeAndStopActByFlyerState := by
  unfold Obligations.HoldResumeAndStopActByFlyerState
  intro q f s taken
  refine ⟨fun passes => ⟨?_, ?_⟩, fun passes => ?_⟩
  · have body := motionRequest_open (k := holdFlyer) passes
    unfold holdFlyer at body
    have meaning := exec_hold q f.val s
    split <;> rename_i state <;> rw [state] at body
    case h_1 | h_2 | h_3 | h_4 | h_5 => exact taken.completed meaning body
    all_goals exact taken.refused meaning body
  · have body := motionRequest_open (k := stopFlyerAt) passes
    unfold stopFlyerAt at body
    have meaning := exec_stopFlyer q f.val s
    split <;> rename_i state <;> rw [state] at body <;> exact taken.completed meaning body
  · have body := motionRequest_open (k := resumeFlyer) passes
    unfold resumeFlyer at body
    have meaning := exec_resume q f.val s
    split <;> rename_i state <;> rw [state] at body
    case h_1 => exact taken.completed meaning body
    all_goals exact taken.refused meaning body

/-! ## One record taken (R101) -/

section
variable {dir : List Cue} {cap : Nat → Nat} {cue i : Nat} {st rest : List StackEntry}

theorem take_move {x : Move} (here : recordAt dir cue i = some (.move x)) :
    Cursor.take dir cap ⟨cue, i, st⟩ = .move x ⟨cue, i + 1, st⟩ := by simp only [Cursor.take, here]

theorem take_mark (here : recordAt dir cue i = some (.mark n)) :
    Cursor.take dir cap ⟨cue, i, st⟩ = .mark n ⟨cue, i + 1, st⟩ := by simp only [Cursor.take, here]

theorem take_wait (here : recordAt dir cue i = some .wait) :
    Cursor.take dir cap ⟨cue, i, st⟩ = .wait ⟨cue, i + 1, st⟩ := by simp only [Cursor.take, here]

theorem take_call (here : recordAt dir cue i = some (.call n)) :
    Cursor.take dir cap ⟨cue, i, st⟩ = .goto ⟨n, 0, .ret cue (i + 1) :: st⟩ := by simp only [Cursor.take, here]

theorem take_rep (here : recordAt dir cue i = some (.rep n)) :
    Cursor.take dir cap ⟨cue, i, st⟩ = .goto ⟨cue, i + 1, .rep cue (i + 1) (cap n) :: st⟩ := by
  simp only [Cursor.take, here]

theorem take_endRep {c b : Nat} (here : recordAt dir cue i = some .endRep) :
    Cursor.take dir cap ⟨cue, i, .rep c b n :: rest⟩ =
      .goto (if 0 < n - 1 then ⟨c, b, .rep c b (n - 1) :: rest⟩ else ⟨cue, i + 1, rest⟩) := by
  match n with
  | 0 | 1 | k + 2 => simp only [Cursor.take, here] <;> rfl

theorem take_return {c j : Nat} (past : recordAt dir cue i = none) :
    Cursor.take dir cap ⟨cue, i, .ret c j :: rest⟩ = .goto ⟨c, j, rest⟩ := by simp only [Cursor.take, past]

theorem take_end (past : recordAt dir cue i = none) : Cursor.take dir cap ⟨cue, i, []⟩ = .finish := by
  simp only [Cursor.take, past]

end

/-- Settles O31: the record taken, and the interpreter's branch for what it leads to. -/
theorem interpreterActsOnEachRecord : Obligations.InterpreterActsOnEachRecord := by
  unfold Obligations.InterpreterActsOnEachRecord
  intro dir fuel cue i st lm k
  dsimp only
  cases here : recordAt dir cue i with
  | none =>
    refine ⟨?_, ?_⟩
    · rintro c j rest rfl
      rw [interpret, take_return here]
    · rintro rfl
      rw [interpret, take_end here]
  | some r =>
    cases r with
    | move x => rw [interpret, take_move here]
    | wait => rw [interpret, take_wait here]
    | mark n => rw [interpret, take_mark here]
    | call n => rw [interpret, take_call here]
    | rep n => rw [interpret, take_rep here]
    | endRep =>
      rintro c b n rest rfl
      rw [interpret, take_endRep here]

/-! ## All-stop and the stop chain (R162, R166, R167) -/

theorem isStopping_iff {x : FlyerState} : x.isStopping = true ↔ ∃ r, x = .stopping r := by
  cases x <;> simp [FlyerState.isStopping]

theorem any_isStopping_iff :
    (allFlyers.any fun f => (u.flyer f).state.isStopping) = true ↔ ∃ f r, (u.flyer f).state = .stopping r := by
  simp only [List.any_eq_true, mem_allFlyers, true_and, isStopping_iff]

theorem releaseAllStopBody_stopping (active : u.allStop ≠ none) (stopping : ∃ f r, (u.flyer f).state = .stopping r) :
    releaseAllStopBody u = refuse .busy [] u :=
  (if_neg active).trans (if_pos (any_isStopping_iff.mpr stopping))

theorem releaseAllStopBody_still (active : u.allStop ≠ none) (still : ∀ f r, (u.flyer f).state ≠ .stopping r) :
    releaseAllStopBody u =
      if u.chainOpen then refuse .allStop [] u else done { u with allStop := none, cutCount := 0 } := by
  refine (if_neg active).trans (if_neg fun stopping => ?_)
  obtain ⟨f, r, stops⟩ := any_isStopping_iff.mp stopping
  exact still f r stops

/-- Settles O35: the rows of R166, and the edges of the stop chain. -/
theorem allStopRequestsAndTheStopChain : Obligations.AllStopRequestsAndTheStopChain := by
  unfold Obligations.AllStopRequestsAndTheStopChain
  refine ⟨fun q s taken => ⟨taken.completed (exec_stopAll q s) rfl, fun inactive => ?_, fun active => ?_⟩, fun s => ?_⟩
  · exact taken.completed (exec_releaseAllStop q s) (if_pos inactive)
  · refine ⟨fun stopping => taken.refused (exec_releaseAllStop q s) (releaseAllStopBody_stopping active stopping),
      fun still => ?_⟩
    have row := releaseAllStopBody_still active still
    refine ⟨fun open_ => taken.refused (exec_releaseAllStop q s) (row.trans (if_pos open_)), fun closed => ?_⟩
    exact taken.completed (exec_releaseAllStop q s) (row.trans (if_neg (by simp [closed])))
  · have meaning : exec .estopChain s = execEstopChain s := rfl
    refine ⟨fun closed runs => ?_, fun closed starting => ?_, fun open_ => ?_, rfl⟩
    · rw [meaning, execEstopChain, if_neg (by simp [closed]), if_pos runs]
      rfl
    · rw [meaning, execEstopChain, if_neg (by simp [closed]), if_neg (by simp [starting])]
    · rw [meaning, execEstopChain, if_pos open_]

/-! ## Timing and saves (R196 to R198) -/

/-- The period and the cut-off that SET_TIMING takes. -/
theorem timingInRange_iff : (periodInRange n && cutoffInRange m) = true ↔
    (n = 2 ∨ n = 4 ∨ n = 8) ∧ 500 ≤ m ∧ m ≤ 3000 ∧ m % 100 = 0 := by
  simp only [periodInRange, cutoffInRange, Bool.and_eq_true, decide_eq_true_eq, within_eq_true_iff]
  omega

theorem setTimingBody_out (out : ¬((n = 2 ∨ n = 4 ∨ n = 8) ∧ 500 ≤ m ∧ m ≤ 3000 ∧ m % 100 = 0)) :
    setTimingBody n m u = refuse .badValue [] u :=
  if_pos (Bool.eq_false_iff.mpr fun range => out (timingInRange_iff.mp range))

theorem setTimingBody_in (range : (n = 2 ∨ n = 4 ∨ n = 8) ∧ 500 ≤ m ∧ m ≤ 3000 ∧ m % 100 = 0) :
    setTimingBody n m u =
      if u.image = .saving then refuse .busy [] u else done { u with cfgT := n, cutoff := m } := by
  simp only [setTimingBody, timingInRange_iff.mpr range, Bool.true_eq_false, if_false, saving_iff]

/-- Settles O41: the rows of R196 and R197. -/
theorem timingIsSetAndASaveBegins : Obligations.TimingIsSetAndASaveBegins := by
  unfold Obligations.TimingIsSetAndASaveBegins
  intro q n m s taken
  have setting := exec_setTiming q n m s
  have save := exec_saveConfig q s
  refine ⟨fun out => taken.refused setting (setTimingBody_out out),
    fun range saves => taken.refused setting ((setTimingBody_in range).trans (if_pos saves)),
    fun range idle => taken.completed setting ((setTimingBody_in range).trans (if_neg idle)),
    fun saves => taken.refused save (if_pos (saving_iff.mpr saves)), fun idle => ?_⟩
  have row : saveConfigBody (arrived q s) = _ := if_neg fun saves => idle (saving_iff.mp saves)
  refine ⟨fun f runs first => ?_, fun rest => ?_⟩
  · rw [(allFlyers_find?_eq_some_iff f).mpr ⟨runs, first⟩] at row
    exact taken.refused save row
  · rw [List.find?_eq_none.mpr fun f _ => by simp [rest f]] at row
    exact taken.answered save row

/-- Settles O42: each operation's end and its time-out. -/
theorem savesRunThroughFourOperations : Obligations.SavesRunThroughFourOperations := by
  unfold Obligations.SavesRunThroughFourOperations
  intro data s runs
  have operation : exec (.flashOperationDone data) s = .next (finish (flashDone data s)) :=
    whileRunning_of_running runs (flashDone data)
  have timeout : exec .saveBusyTimeout s = .next (finish (flashBusy s)) := whileRunning_of_running runs flashBusy
  dsimp only
  rw [operation, timeout]
  refine ⟨fun at0 => ?_, fun at1 => ?_, fun at2 => ?_, fun at3 => ?_, fun at4 same => ?_, fun at4 differs => ?_,
    fun early => ?_, fun late => ?_⟩
  · simp only [flashDone, flashBusy, at0, and_self]
  · simp only [flashDone, at1]
  · simp only [flashDone, at2, Config.imageBody]
  · simp only [flashDone, at3]
  · simp only [flashDone, at4, same, if_true]
  · simp only [flashDone, at4, differs, if_false]
    rfl
  · rcases early with at1 | at2
    · simp only [flashBusy, at1]
      rfl
    · simp only [flashBusy, at2]
      rfl
  · refine ⟨Config.flashResidue s.free, ?_⟩
    rcases late with at3 | at4
    · simp only [flashBusy, at3]
      rfl
    · simp only [flashBusy, at4]
      rfl

/-! ## The resets (R191, R192) -/

/-- Settles O49: the values of the two resets. -/
theorem resetsSetEveryPieceOfState : Obligations.ResetsSetEveryPieceOfState := by
  unfold Obligations.ResetsSetEveryPieceOfState
  have meaning (s : State) : exec .warmReset s = execWarmReset s := rfl
  refine ⟨fun s => rfl, fun s starting => ?_, fun s settled => ⟨warmed s, ?_, fun a => ?_, fun f => ?_, fun p => ?_,
    fun st => ?_, grant_warmed s, rfl⟩⟩
  · rw [meaning, execWarmReset, starting]
    rfl
  · rw [meaning, execWarmReset]
    cases startup : s.startup with
    | powerOn => exact absurd startup settled
    | running | warm => rfl
  · rw [axis_warmed]
    rfl
  · rw [flyer_warmed]
    rfl
  · rw [port_warmed]
    rfl
  · cases st <;> rfl

end Sys2Proof.Machine
end

section
/-! Faults: what one does to the flyer it is found on, by class and state, to the other members of its formation, and to
an axis (R27, R28, R157 to R161). -/

namespace Sys2Proof.Machine

variable {s t u v : State} {f g : FlyerId} {a : AxisId} {via : Bool} {cls : FaultClass} {c d : Cause} {clears : Bool}

/-! ## Frames -/

/-- Nothing but axes, flyers and the log differs. -/
def FaultOnly (s t : State) : Prop := ∃ A F L, t = { s with axes := A, flyers := F, log := L }

theorem FaultOnly.refl (s : State) : FaultOnly s s := ⟨s.axes, s.flyers, s.log, rfl⟩

theorem FaultOnly.trans (first : FaultOnly s t) (second : FaultOnly t u) : FaultOnly s u := by
  obtain ⟨_, _, _, rfl⟩ := first
  obtain ⟨A, F, L, rfl⟩ := second
  exact ⟨A, F, L, rfl⟩

theorem FaultOnly.forEach {α : Type} {op : α → State → State} (each : ∀ x s, FaultOnly s (op x s)) (l : List α)
    (s : State) : FaultOnly s (forEach l op s) :=
  forEach_rel FaultOnly FaultOnly.refl (fun _ _ _ => FaultOnly.trans) op l (fun x _ => each x) s

theorem RigOnly.faultOnly (only : RigOnly s t) : FaultOnly s t := by
  obtain ⟨A, F, rfl⟩ := only
  exact ⟨A, F, s.log, rfl⟩

theorem logCause_faultOnly (c : Cause) (cls : FaultClass) (o : Option FlyerId) (s : State) :
    FaultOnly s (logCause c cls o s) := ⟨_, _, _, rfl⟩

theorem FaultOnly.eq (only : FaultOnly s t) : t = { s with axes := t.axes, flyers := t.flyers, log := t.log } := by
  obtain ⟨A, F, L, rfl⟩ := only
  rfl

theorem FaultOnly.modeClock (only : FaultOnly s t) : t.logMode = s.logMode ∧ t.clock = s.clock := by
  obtain ⟨A, F, L, rfl⟩ := only
  exact ⟨rfl, rfl⟩

/-- Axes that are not ENGAGED stand. -/
def Spares (s t : State) : Prop := ∀ a, (s.axis a).state ≠ .engaged → t.axis a = s.axis a

theorem Spares.refl (s : State) : Spares s s := fun _ _ => rfl

theorem Spares.trans (first : Spares s t) (second : Spares t u) : Spares s u := fun a free =>
  (second a (by rwa [first a free])).trans (first a free)

theorem Spares.forEach {α : Type} {op : α → State → State} (each : ∀ x s, Spares s (op x s)) (l : List α) (s : State) :
    Spares s (forEach l op s) :=
  forEach_rel Spares Spares.refl (fun _ _ _ => Spares.trans) op l (fun x _ => each x) s

theorem Releases.spares {p : AxisId → Prop} (releases : Releases p s t) : Spares s t := by
  intro a free
  by_cases released : p a
  · rw [(releases a).1 released, disengageAxis, if_neg free]
  · exact (releases a).2 released

/-! ## One flyer hit by a fault (R28, R157 to R161) -/

/-- What a fault makes of a flyer's record; `ready` says whether its members are all READY (R28, R158, R159). -/
def struck (via : Bool) (cls : FaultClass) (clears : Bool) (d : Cause) (ready : Bool) (y : Flyer) : Flyer :=
  let x := if clears then dropLocated y else y
  let cause := x.cause.or (some d)
  let rested : Flyer :=
    { x with state := .faulted, run := none, cause := cause, point := if x.located then x.point else none }
  let dead : Flyer := { x with state := .faulted, run := none, cause := cause, frozen := true }
  match y.state with
  | .undefined | .faulted => x
  | .unready | .unlocated | .parked =>
    if via then { x with state := readyState ready x.located .unready } else rested
  | .releasing => rested
  | .held _ => if cls = .flyerDead then dead else rested
  | .cueRun _ | .holding | .jogging | .stopping .request =>
    if cls = .flyerDead then dead else { x with state := .stopping .fault, cause := cause }
  | .stopping .fault | .stopping .allStop => if cls = .flyerDead then dead else x

theorem struck_defn (ready : Bool) (x : Flyer) : (struck via cls clears d ready x).defn = x.defn := by
  have dropped : (if clears = true then dropLocated x else x).defn = x.defn := by split <;> rfl
  unfold struck
  dsimp only
  split <;> first | exact dropped | (split <;> exact dropped)

/-- The states in which a fault ends with the members released (R28, R159). -/
def releasedBy (via : Bool) (cls : FaultClass) : FlyerState → Bool
  | .unready | .unlocated | .parked => !via
  | .releasing => true
  | .held _ => decide (cls ≠ .flyerDead)
  | .undefined | .cueRun _ | .holding | .jogging | .stopping _ | .faulted => false

/-- The located flag cleared, where the fault clears it (R30). -/
def cleared (clears : Bool) (f : FlyerId) (s : State) : State := if clears then modFlyer f dropLocated s else s

theorem cleared_flyersOnly : FlyersOnly s (cleared clears f s) := by
  unfold cleared
  split
  · exact modFlyer_flyersOnly ..
  · exact FlyersOnly.refl s

theorem flyer_cleared (g : FlyerId) :
    (cleared clears f s).flyer g = if g = f then (if clears then dropLocated (s.flyer f) else s.flyer f) else s.flyer g := by
  unfold cleared
  split
  · rw [flyer_modFlyer_eq]
  · split
    · next same => rw [same]
    · rfl

theorem membersOf_cleared (g : FlyerId) : membersOf (cleared clears f s) g = membersOf s g := by
  refine membersOf_of_defn ?_
  rw [flyer_cleared]
  split
  · next same =>
    rw [same]
    split <;> rfl
  · rfl

theorem membersReady_cleared : membersReady (cleared clears f s) f = membersReady s f :=
  membersReady_congr (membersOf_cleared f) fun a _ => cleared_flyersOnly.axis a

/-- What a fault does to a flyer once its located flag is settled. -/
theorem hitFlyer_eq (f : FlyerId) :
    hitFlyer via cls clears c f s =
      match (s.flyer f).state with
      | .undefined | .faulted => cleared clears f s
      | .unready | .unlocated | .parked =>
        if via then readiness f (modFlyer f (fun x => { x with state := .unready }) (cleared clears f s))
        else faultAtRest f c (cleared clears f s)
      | .releasing => faultAtRest f c (cleared clears f s)
      | .cueRun _ | .holding | .jogging | .stopping .request =>
        if cls = .flyerDead then deadStop f c (cleared clears f s) else controlledStop f c (cleared clears f s)
      | .stopping .fault | .stopping .allStop =>
        if cls = .flyerDead then deadStop f c (cleared clears f s) else cleared clears f s
      | .held _ =>
        if cls = .flyerDead then deadStop f c (cleared clears f s) else faultAtRest f c (cleared clears f s) := by
  have state : ((cleared clears f s).flyer f).state = (s.flyer f).state := by
    rw [flyer_cleared, if_pos rfl]
    split <;> rfl
  rw [← state]
  rfl

theorem flyer_deadStop (g : FlyerId) :
    (deadStop f c s).flyer g =
      if g = f then
        { s.flyer f with state := .faulted, run := none, cause := (s.flyer f).cause.or (some c), frozen := true }
      else s.flyer g := by
  rw [deadStop, flyer_modFlyer_eq, firstCause_eq]

theorem flyer_controlledStop (g : FlyerId) :
    (controlledStop f c s).flyer g =
      if g = f then { s.flyer f with state := .stopping .fault, cause := (s.flyer f).cause.or (some c) }
      else s.flyer g := by
  rw [controlledStop, flyer_modFlyer_eq, firstCause_eq]

theorem flyer_unreadied (g : FlyerId) :
    (readiness f (modFlyer f (fun x => { x with state := .unready }) s)).flyer g =
      if g = f then
        { s.flyer f with state := readyState (membersReady s f) (s.flyer f).located .unready }
      else s.flyer g := by
  have ready : membersReady (modFlyer f (fun x => { x with state := .unready }) s) f = membersReady s f :=
    membersReady_congr (membersOf_of_defn (by rw [flyer_modFlyer_eq, if_pos rfl])) fun _ _ => rfl
  rw [readiness_eq, ready, flyer_modFlyer_eq, flyer_modFlyer_eq, flyer_modFlyer_eq, if_pos rfl]
  by_cases same : g = f
  · rw [if_pos same, if_pos same]
  · rw [if_neg same, if_neg same, if_neg same]

theorem flyer_hitFlyer (f g : FlyerId) :
    (hitFlyer via cls clears c f s).flyer g =
      if g = f then struck via cls clears c (membersReady s f) (s.flyer f) else s.flyer g := by
  rw [hitFlyer_eq]
  by_cases same : g = f
  · subst same
    rw [if_pos rfl]
    unfold struck
    have here : (cleared clears g s).flyer g = if clears then dropLocated (s.flyer g) else s.flyer g := by
      rw [flyer_cleared, if_pos rfl]
    generalize (if clears = true then dropLocated (s.flyer g) else s.flyer g) = x at here ⊢
    dsimp only
    generalize (s.flyer g).state = st
    rcases st with _ | _ | _ | _ | _ | _ | _ | _ | _ | (_ | _ | _) | _ <;>
      simp only [apply_ite (fun t : State => t.flyer g), flyer_unreadied, flyer_faultAtRest, flyer_deadStop,
        flyer_controlledStop, if_true, here, membersReady_cleared]
  · rw [if_neg same]
    have other : (cleared clears f s).flyer g = s.flyer g := by rw [flyer_cleared, if_neg same]
    split <;> simp only [apply_ite (fun t : State => t.flyer g), flyer_unreadied, flyer_faultAtRest, flyer_deadStop,
      flyer_controlledStop, if_neg same, other, ite_self]

theorem hitFlyer_rigOnly : RigOnly s (hitFlyer via cls clears c f s) := by
  have drop : RigOnly s (cleared clears f s) := cleared_flyersOnly.rigOnly
  have rested : RigOnly s (faultAtRest f c (cleared clears f s)) :=
    drop.trans ((modFlyer_rigOnly f _ _).trans (disengage_rigOnly f _))
  have dead : RigOnly s (deadStop f c (cleared clears f s)) := drop.trans (modFlyer_rigOnly f _ _)
  have controlled : RigOnly s (controlledStop f c (cleared clears f s)) := drop.trans (modFlyer_rigOnly f _ _)
  rw [hitFlyer_eq]
  split
  case h_3 | h_4 | h_5 =>
    refine RigOnly.ite (drop.trans ?_) rested
    rw [readiness_eq]
    exact (modFlyer_rigOnly f _ _).trans (modFlyer_rigOnly f _ _)
  case h_6 => exact rested
  case h_1 | h_2 => exact drop
  all_goals first | exact dead.ite controlled | exact dead.ite rested | exact dead.ite drop

/-- The members of a flyer that a fault takes to rest leave ENGAGED, and no other axis changes (R26, R28, R159). -/
theorem hitFlyer_releases : Releases (fun a => a ∈ membersOf s f ∧ releasedBy via cls (s.flyer f).state = true) s
    (hitFlyer via cls clears c f s) := by
  have drop : Releases (fun _ => False) s (cleared clears f s) := Releases.of_axes cleared_flyersOnly.axis
  have stands {t : State} {p : Prop} (no : ¬p) (same : ∀ a, t.axis a = s.axis a) :
      Releases (fun a => a ∈ membersOf s f ∧ p) s t := (Releases.of_axes same).congr fun a => by simp [no]
  have rested : Releases (fun a => a ∈ membersOf s f) s (faultAtRest f c (cleared clears f s)) :=
    (drop.trans (faultAtRest_releases f c _)).congr fun a => by rw [membersOf_cleared, false_or]
  have rests {p : Prop} (yes : p) : Releases (fun a => a ∈ membersOf s f ∧ p) s (faultAtRest f c (cleared clears f s)) :=
    rested.congr fun a => (and_iff_left yes).symm
  have still : ∀ a, (cleared clears f s).axis a = s.axis a := cleared_flyersOnly.axis
  have unready (a : AxisId) :
      (readiness f (modFlyer f (fun x => { x with state := .unready }) (cleared clears f s))).axis a = s.axis a := by
    rw [readiness_eq]
    exact still a
  rw [hitFlyer_eq]
  cases (s.flyer f).state with
  | undefined | faulted => exact stands Bool.noConfusion still
  | releasing => exact rests rfl
  | unready | unlocated | parked =>
    cases via with
    | true => exact stands Bool.noConfusion unready
    | false => exact rests rfl
  | held =>
    dsimp only
    by_cases dead : cls = .flyerDead
    · rw [if_pos dead]
      exact stands (by simp [releasedBy, dead]) still
    · rw [if_neg dead]
      exact rests (by simp [releasedBy, dead])
  | cueRun | holding | jogging =>
    refine stands Bool.noConfusion fun a => ?_
    dsimp only
    split <;> exact still a
  | stopping why =>
    refine stands Bool.noConfusion fun a => ?_
    cases why <;> dsimp only <;> split <;> exact still a

theorem hitFlyer_defn (g : FlyerId) : ((hitFlyer via cls clears c f s).flyer g).defn = (s.flyer g).defn := by
  rw [flyer_hitFlyer]
  split
  · next same => rw [struck_defn, same]
  · rfl

/-! ## A fault on a flyer and its formation (R45, R157 to R161) -/

/-- A fault of a class logged for a flyer, and its action on it (R157). -/
def strike (via : Bool) (cls : FaultClass) (clears : Bool) (e : FlyerId × Cause) (s : State) : State :=
  hitFlyer via cls clears e.2 e.1 (logCause e.2 cls (some e.1) s)

/-- The entry that a fault of a class on a flyer leaves in the log (R157). -/
def strikeEntry (cls : FaultClass) (clock : Counter) (e : FlyerId × Cause) : LogEntry :=
  { time := clock, code := e.2.code, cls := cls, flyer := some e.1, axis := e.2.axis, station := e.2.station,
    port := none, detail := e.2.detail }

theorem strike_faultOnly (e : FlyerId × Cause) (s : State) : FaultOnly s (strike via cls clears e s) :=
  (logCause_faultOnly ..).trans hitFlyer_rigOnly.faultOnly

theorem flyer_strike (e : FlyerId × Cause) (g : FlyerId) :
    (strike via cls clears e s).flyer g =
      if g = e.1 then struck via cls clears e.2 (membersReady s e.1) (s.flyer e.1) else s.flyer g :=
  flyer_hitFlyer e.1 g

theorem strike_releases (e : FlyerId × Cause) :
    Releases (fun a => a ∈ membersOf s e.1 ∧ releasedBy via cls (s.flyer e.1).state = true) s
      (strike via cls clears e s) :=
  hitFlyer_releases (s := logCause e.2 cls (some e.1) s)

theorem log_strike (e : FlyerId × Cause) :
    (strike via cls clears e s).log = logAfter s.logMode s.log (strikeEntry cls s.clock e) := by
  obtain ⟨A, F, shape⟩ := hitFlyer_rigOnly (via := via) (cls := cls) (clears := clears) (c := e.2) (f := e.1)
    (s := logCause e.2 cls (some e.1) s)
  rw [strike, shape]
  rfl

/-- Flyers struck one after another, none of them twice: each by its own record and its own members. -/
theorem forEach_strike {es : List (FlyerId × Cause)} (nodup : (es.map fun e => e.1).Nodup) (apart : MembersApart s) :
    let t := forEach es (strike via cls clears) s
    (∀ e ∈ es, t.flyer e.1 = struck via cls clears e.2 (membersReady s e.1) (s.flyer e.1)) ∧
    (∀ g, g ∉ es.map (fun e => e.1) → t.flyer g = s.flyer g) ∧
    Releases (fun a => ∃ e ∈ es, a ∈ membersOf s e.1 ∧ releasedBy via cls (s.flyer e.1).state = true) s t ∧
    t.log = es.foldl (fun l e => logAfter s.logMode l (strikeEntry cls s.clock e)) s.log := by
  induction es generalizing s with
  | nil => exact ⟨fun _ mem => (List.not_mem_nil mem).elim, fun _ _ => rfl, (Releases.of_axes fun _ => rfl).congr (by simp), rfl⟩
  | cons e es ih =>
    obtain ⟨once, nodup⟩ := List.nodup_cons.mp nodup
    have members (g : FlyerId) : membersOf (strike via cls clears e s) g = membersOf s g :=
      membersOf_of_defn (hitFlyer_defn g)
    obtain ⟨flyers, others, released, log⟩ := ih (s := strike via cls clears e s) nodup
      ⟨by simpa only [members] using apart.1, by simpa only [members] using apart.2⟩
    have stands {g : FlyerId} (other : g ≠ e.1) : (strike via cls clears e s).flyer g = s.flyer g := by
      rw [flyer_strike, if_neg other]
    have later {x : FlyerId × Cause} (mem : x ∈ es) : x.1 ≠ e.1 := fun same =>
      once (List.mem_map.mpr ⟨x, mem, same⟩)
    have ready {g : FlyerId} (other : g ≠ e.1) : membersReady (strike via cls clears e s) g = membersReady s g :=
      membersReady_congr (members g) fun a mem =>
        (strike_releases e a).2 fun both => other (apart.1 g e.1 a mem both.1)
    refine ⟨fun x mem => ?_, fun g outside => ?_, (strike_releases e |>.trans released).congr fun a => ?_, ?_⟩
    · rcases List.mem_cons.mp mem with rfl | late
      · exact (others x.1 once).trans (by rw [flyer_strike, if_pos rfl])
      · exact (flyers x late).trans (by rw [ready (later late), stands (later late)])
    · simp only [List.map_cons, List.mem_cons, not_or] at outside
      exact (others g outside.2).trans (stands outside.1)
    · simp only [List.mem_cons, exists_eq_or_imp, members]
      refine or_congr_right (exists_congr fun x => and_congr_right fun mem => ?_)
      rw [stands (later mem)]
    · obtain ⟨mode, clock⟩ := (strike_faultOnly (via := via) (cls := cls) (clears := clears) e s).modeClock
      rw [log_strike, mode, clock] at log
      exact log

/-- The other members of a flyer's formation, where a fault on the flyer acts (R45, R161). -/
def othersStruck (cls : FaultClass) (f : FlyerId) (s : State) : List FlyerId :=
  if faultActs cls (s.flyer f).state then (concernedFlyers s f).filter fun g => g != f else []

/-- Those that a fault on a flyer strikes, with the cause of each: the flyer, and the others by MEMBER_STOP (R45,
R161). -/
def strikes (cls : FaultClass) (c : Cause) (f : FlyerId) (s : State) : List (FlyerId × Cause) :=
  (f, c) :: (othersStruck cls f s).map fun g =>
    (g, { code := .memberStop, axis := none, station := none, detail := .member f c.code })

theorem map_fst_strikes : (strikes cls c f s).map (fun e => e.1) = f :: othersStruck cls f s := by
  simp only [strikes, List.map_cons, List.map_map, Function.comp_def, List.map_id']

theorem takeFault_eq (f : FlyerId) (s : State) :
    takeFault via cls c f s = forEach (strikes cls c f s) (strike via cls c.code.clearsLocated) s := by
  unfold takeFault strikes othersStruck
  cases faultActs cls (s.flyer f).state with
  | false => rfl
  | true =>
    have same : ((concernedFlyers s f).filter fun g => decide (g ≠ f)) = (concernedFlyers s f).filter fun g => g != f :=
      List.filter_congr fun g _ => by simp [bne, beq_eq_decide]
    simp only [Bool.true_eq_false, if_false, if_true, same, forEach, List.foldl_cons, List.foldl_map]
    rfl

theorem nodup_strikes (sound : FormationsSound s) : ((strikes cls c f s).map fun e => e.1).Nodup := by
  rw [map_fst_strikes, othersStruck]
  refine List.nodup_cons.mpr ⟨?_, ?_⟩
  · split <;> simp
  · split
    · exact (nodup_concernedFlyers sound f).filter _
    · exact List.nodup_nil

theorem exists_mem_strikes {p : FlyerId → Prop} :
    (∃ e ∈ strikes cls c f s, p e.1) ↔ ∃ g, (g = f ∨ g ∈ othersStruck cls f s) ∧ p g := by
  have named (g : FlyerId) : (g = f ∨ g ∈ othersStruck cls f s) ↔ ∃ e ∈ strikes cls c f s, e.1 = g := by
    rw [← List.mem_cons, ← map_fst_strikes (c := c), List.mem_map]
  simp only [named]
  exact ⟨fun ⟨e, mem, holds⟩ => ⟨e.1, ⟨e, mem, rfl⟩, holds⟩, fun ⟨_, ⟨e, mem, same⟩, holds⟩ => ⟨e, mem, same ▸ holds⟩⟩

/-- The states whose members a fault of the two flyer classes releases. -/
theorem releasedBy_eq (kind : cls = .flyerStop ∨ cls = .flyerDead) (st : FlyerState) :
    releasedBy via cls st =
      match st with
      | .unready | .unlocated | .parked => !via
      | .releasing => true
      | .held _ => decide (cls = .flyerStop)
      | .undefined | .cueRun _ | .holding | .jogging | .stopping _ | .faulted => false := by
  rcases kind with rfl | rfl <;> cases st <;> rfl

/-- Settles O37: the flyers struck one after another, each by its own record. -/
theorem faultsActByClassAndState : Obligations.FaultsActByClassAndState := by
  unfold Obligations.FaultsActByClassAndState
  intro via cls c f s kind sound apart
  obtain ⟨flyers, others, released, log⟩ := forEach_strike (via := via) (cls := cls) (clears := c.code.clearsLocated)
    (nodup_strikes (cls := cls) (c := c) (f := f) sound) apart
  have frame := (FaultOnly.forEach (strike_faultOnly (via := via) (cls := cls) (clears := c.code.clearsLocated))
    (strikes cls c f s) s).eq
  rw [← takeFault_eq] at flyers others released log frame
  refine ⟨frame, flyers _ List.mem_cons_self, fun g mem => ?_, fun g other outside => ?_, fun a => ?_, log⟩
  · exact flyers _ (List.mem_cons_of_mem _ (List.mem_map_of_mem mem))
  · refine others g fun mem => ?_
    rw [map_fst_strikes, List.mem_cons] at mem
    exact mem.elim other outside
  · have all := released.congr fun a =>
      exists_mem_strikes (p := fun g => a ∈ membersOf s g ∧ releasedBy via cls (s.flyer g).state = true)
    simp only [releasedBy_eq kind] at all
    exact all.axis a

/-! ## Axis faults (R27, R28, R147) -/

theorem takeFault_spares (via : Bool) (cls : FaultClass) (c : Cause) (f : FlyerId) (s : State) :
    Spares s (takeFault via cls c f s) := by
  rw [takeFault_eq]
  exact Spares.forEach (fun e _ => (strike_releases e).spares) _ s

/-- Settles O38: the axis's own record, which no stop of its flyer touches again. -/
theorem axisFaultsReachTheirFlyer : Obligations.AxisFaultsReachTheirFlyer := by
  unfold Obligations.AxisFaultsReachTheirFlyer
  intro code d a s
  refine ⟨fun faulted => if_pos faulted, fun sound free => ?_, fun f sound member => ?_⟩
  · refine (if_neg sound).trans ?_
    rw [free]
    rfl
  · have taken : axisFault code d a s = takeFault true code.cls ⟨code, some a, none, d⟩ f
        (s.setAxis a { s.axis a with state := .faulted, cause := some code, slack := 0, committed := none }) := by
      refine (if_neg sound).trans ?_
      rw [member]
      rfl
    refine ⟨taken, ?_⟩
    rw [taken]
    exact takeFault_spares _ _ _ _ _ a (by rw [State.axis_setAxis_self]; exact nofun)

end Sys2Proof.Machine
end

section
/-! The shared changes of state of a run: the entry into RELEASING, the completed release and a run of the record
interpreter; and GO, which takes one (R26, R34, R37, R38, R45, R99, R100, R105 to R107). -/

namespace Sys2Proof.Machine

variable {s t u v : State} {f g h : FlyerId} {a : AxisId} {fs : List FlyerId}

/-! ## Gentle changes keep rigs and limits -/

theorem Gentle.rigOf (gentle : Gentle s t) (f : FlyerId) : rigOf t f = rigOf s f := by
  have params : paramsOf t = paramsOf s := funext fun a => (gentle.axes a).params
  rw [Machine.rigOf, Machine.rigOf, (gentle.flyers f).defn, (gentle.flyers f).rig, params]

theorem Gentle.membersOf (gentle : Gentle s t) (f : FlyerId) : membersOf t f = membersOf s f :=
  membersOf_of_defn (gentle.flyers f).defn

theorem Gentle.membersApart (gentle : Gentle s t) (apart : MembersApart s) : MembersApart t := by
  simpa only [MembersApart, gentle.membersOf] using apart

/-- Formations are read off the formation records alone. -/
theorem Tame.concernedFlyers (tame : Tame s t) (f : FlyerId) : concernedFlyers t f = concernedFlyers s f := by
  obtain ⟨_, _, _, rfl⟩ := tame.frame
  rfl

theorem Tame.limitsOf (tame : Tame s t) (f : FlyerId) : limitsOf t f = limitsOf s f := by
  simp only [Machine.limitsOf, tame.concernedFlyers, tame.defn]

/-! ## Axes changed one by one -/

/-- A sequence of changes of axis records, one for each of distinct axes. -/
theorem axis_forEach_modAxis_keyed {α : Type} (key : α → AxisId) (k : α → Axis → Axis) {l : List α}
    (nodup : (l.map key).Nodup) (s : State) :
    let t := forEach l (fun x => modAxis (key x) (k x)) s
    (∀ x ∈ l, t.axis (key x) = k x (s.axis (key x))) ∧ ∀ a, a ∉ l.map key → t.axis a = s.axis a := by
  induction l generalizing s with
  | nil => exact ⟨fun _ mem => (List.not_mem_nil mem).elim, fun _ _ => rfl⟩
  | cons y l ih =>
    obtain ⟨once, nodup⟩ := List.nodup_cons.mp nodup
    obtain ⟨changed, stands⟩ := ih nodup (modAxis (key y) (k y) s)
    refine ⟨fun x mem => ?_, fun a outside => ?_⟩
    · rcases List.mem_cons.mp mem with rfl | late
      · exact (stands _ once).trans (by rw [axis_modAxis, if_pos rfl])
      · have other : key y ≠ key x := fun same => once (List.mem_map.mpr ⟨x, late, same.symm⟩)
        exact (changed x late).trans (by rw [axis_modAxis, if_neg other])
    · simp only [List.map_cons, List.mem_cons, not_or] at outside
      exact (stands a outside.2).trans (by rw [axis_modAxis, if_neg (Ne.symm outside.1)])

theorem map_fst_lengthsFrom (r : Rig) (q : Vec3) (i : Nat) (l : List (AxisId × AxisParams)) :
    (lengthsFrom r q i l).map (fun x => x.1) = l.map fun x => x.1 := by
  induction l generalizing i with
  | nil => rfl
  | cons x l ih => rw [lengthsFrom, List.map_cons, List.map_cons, ih]

theorem map_fst_lineLengths (r : Rig) (p : Vec3) : (lineLengths r p).map (fun x => x.1) = r.lines.map fun x => x.1 :=
  map_fst_lengthsFrom r (roundPoint p) 0 r.lines

/-- The lines of a flyer's rig are those of its members, in member order (R31). -/
theorem lines_sublist_members {r : Rig} (rig : rigOf s f = some r) :
    (r.lines.map fun x => x.1).Sublist (membersOf s f) := by
  have kept (params : AxisId → Option AxisParams) (l : List AxisId) :
      ((l.filterMap fun a => (params a).map fun p => (a, p)).map fun x => x.1).Sublist l := by
    induction l with
    | nil => exact List.Sublist.refl []
    | cons a l ih =>
      cases set : params a with
      | none => simpa [set] using ih.cons a
      | some p => simpa [set] using ih.cons_cons a
  unfold rigOf at rig
  split at rig
  · next d c defn _ =>
    cases rig
    rw [membersOf, defn]
    exact kept _ _
  · cases rig

/-! ## The entry into RELEASING (R37) -/

theorem engage_axes (apart : MembersApart s) (f : FlyerId) :
    (∀ r p, rigOf s f = some r → (s.flyer f).point = some p → ∀ l ∈ lineLengths r p,
      (engage f s).axis l.1 = engageAxis l.2.1 l.2.2 (s.axis l.1)) ∧
    ∀ a, (∀ r, rigOf s f = some r → a ∉ r.lines.map fun l => l.1) → (engage f s).axis a = s.axis a := by
  have engaged {r : Rig} {p : Vec3} (rig : rigOf s f = some r) (point : (s.flyer f).point = some p) :=
    axis_forEach_modAxis_keyed (fun l : AxisId × AxisParams × Int => l.1) (fun l => engageAxis l.2.1 l.2.2)
      (l := lineLengths r p) (by rw [map_fst_lineLengths]; exact (apart.2 f).sublist (lines_sublist_members rig)) s
  refine ⟨fun r p rig point l mem => ?_, fun a outside => ?_⟩
  · rw [engage, rig, point]
    exact (engaged rig point).1 l mem
  · unfold engage
    split
    · next r p rig point => exact (engaged rig point).2 a (by rw [map_fst_lineLengths]; exact outside r rig)
    · rfl

theorem engage_rigOnly (f : FlyerId) (s : State) : RigOnly s (engage f s) := by
  unfold engage
  split
  · exact RigOnly.forEach (fun (l : AxisId × AxisParams × Int) => modAxis_rigOnly l.1 (engageAxis l.2.1 l.2.2)) _ s
  · exact RigOnly.refl s

@[simp] theorem flyer_engage (f g : FlyerId) (s : State) : (engage f s).flyer g = s.flyer g := by
  unfold engage
  split
  · exact forEach_rel (fun s t => t.flyer g = s.flyer g) (fun _ => rfl) (fun _ _ _ h k => k.trans h)
      (fun (l : AxisId × AxisParams × Int) => modAxis l.1 (engageAxis l.2.1 l.2.2)) _ (fun _ _ _ => rfl) s
  · rfl

theorem flyer_forEach_engage (fs : List FlyerId) (g : FlyerId) (s : State) : (forEach fs engage s).flyer g = s.flyer g :=
  forEach_rel (fun s t => t.flyer g = s.flyer g) (fun _ => rfl) (fun _ _ _ h k => k.trans h) engage fs
    (fun f _ s => flyer_engage f g s) s

/-- The members of distinct flyers engaged, each at the counts of its own flyer's point (R37). -/
theorem forEach_engage_axes (apart : MembersApart s) (nodup : fs.Nodup) :
    (∀ h ∈ fs, ∀ r p, rigOf s h = some r → (s.flyer h).point = some p → ∀ l ∈ lineLengths r p,
      (forEach fs engage s).axis l.1 = engageAxis l.2.1 l.2.2 (s.axis l.1)) ∧
    ∀ a, (∀ h ∈ fs, ∀ r, rigOf s h = some r → a ∉ r.lines.map fun l => l.1) →
      (forEach fs engage s).axis a = s.axis a := by
  induction fs generalizing s with
  | nil => exact ⟨fun _ mem => (List.not_mem_nil mem).elim, fun _ _ => rfl⟩
  | cons f fs ih =>
    obtain ⟨once, nodup⟩ := List.nodup_cons.mp nodup
    have gentle := engage_gentle f s
    obtain ⟨engaged, stands⟩ := ih (gentle.membersApart apart) nodup
    obtain ⟨first, spared⟩ := engage_axes apart f
    simp only [gentle.rigOf, flyer_engage] at engaged stands
    have member {h : FlyerId} {r : Rig} (rig : rigOf s h = some r) {a : AxisId} (mem : a ∈ r.lines.map fun l => l.1) :
        a ∈ membersOf s h := (lines_sublist_members rig).subset mem
    have line {r : Rig} {p : Vec3} {l : AxisId × AxisParams × Int} (mem : l ∈ lineLengths r p) :
        l.1 ∈ r.lines.map fun l => l.1 := map_fst_lineLengths r p ▸ List.mem_map_of_mem mem
    refine ⟨fun h mem r p rig point l inLines => ?_, fun a outside => ?_⟩
    · rcases List.mem_cons.mp mem with rfl | late
      · refine (stands l.1 fun k other x xrig xmem => ?_).trans (first r p rig point l inLines)
        exact once (apart.1 _ _ _ (member rig (line inLines)) (member xrig xmem) ▸ other)
      · refine (engaged h late r p rig point l inLines).trans (congrArg _ (spared l.1 fun x xrig xmem => ?_))
        exact once (apart.1 _ _ _ (member xrig xmem) (member rig (line inLines)) ▸ late)
    · simp only [List.mem_cons, forall_eq_or_imp] at outside
      exact (stands a outside.2).trans (spared a outside.1)

theorem enterReleasing_rigOnly (f : FlyerId) (r : Run) (s : State) : RigOnly s (enterReleasing f r s) := by
  unfold enterReleasing
  exact ((setStates_flyersOnly _ _ s).rigOnly.trans (RigOnly.forEach engage_rigOnly _ _)).trans (modFlyer_rigOnly f _ _)

theorem flyer_enterReleasing (f : FlyerId) (r : Run) (s : State) (h : FlyerId) :
    (enterReleasing f r s).flyer h =
      if h ∈ concernedFlyers s f then
        { s.flyer h with state := .releasing, run := if h = f then some r else (s.flyer h).run }
      else s.flyer h := by
  rw [enterReleasing, flyer_modFlyer_eq, flyer_forEach_engage, flyer_forEach_engage, flyer_setStates, flyer_setStates]
  by_cases same : h = f
  · subst same
    rw [if_pos rfl, if_pos (self_mem_concernedFlyers s h), if_pos (self_mem_concernedFlyers s h), if_pos rfl]
  · rw [if_neg same]
    simp only [if_neg same]

/-! ## The completed release (R38, R99) -/

/-- A change of the run of a flyer, and a state for its formation. -/
theorem flyer_setStates_modRun (k : Run → Run) (st : FlyerState) {r : Run} (run : (s.flyer f).run = some r) (h : FlyerId) :
    (setStates (concernedFlyers s f) st (modRun f k s)).flyer h =
      if h ∈ concernedFlyers s f then
        { s.flyer h with state := st, run := if h = f then some (k r) else (s.flyer h).run }
      else s.flyer h := by
  rw [flyer_setStates, flyer_modRun]
  by_cases same : h = f
  · subst same
    rw [if_pos rfl, if_pos (self_mem_concernedFlyers s h), if_pos (self_mem_concernedFlyers s h), if_pos rfl, run]
    rfl
  · simp only [if_neg same]

theorem setStates_modRun_flyersOnly (fs : List FlyerId) (st : FlyerState) (k : Run → Run) (s : State) :
    FlyersOnly s (setStates fs st (modRun f k s)) :=
  (modRun_flyersOnly f k s).trans (setStates_flyersOnly fs st _)

/-! ## A run of the interpreter (R100, R106, R107) -/

/-- The state that a run of the interpreter leaves before its end acts: the MARKs taken and the run placed. -/
def walked (f : FlyerId) (out : Interpreted) (s : State) : State :=
  modRun f (Run.placed out.pos)
    (forEach (concernedFlyers s f) (fun g => modFlyer g (takeMarkRun out.lastMark out.marks)) s)

theorem runInterpreter_eq {r : Run} {p : Vec3} (run : (s.flyer f).run = some r) (point : (s.flyer f).point = some p) :
    runInterpreter f s =
      let out := interpret s.dir Config.walkBound ⟨r.posCue, r.posRecord, r.stack⟩ none 0
      interpreterOutcome f p out.stop (walked f out s) := by
  rw [runInterpreter, run, point]
  rfl

theorem walked_flyersOnly (f : FlyerId) (out : Interpreted) (s : State) : FlyersOnly s (walked f out s) :=
  (FlyersOnly.forEach (fun g => modFlyer_flyersOnly g (takeMarkRun out.lastMark out.marks)) _ s).trans
    (modRun_flyersOnly f _ _)

theorem walked_tame (f : FlyerId) (out : Interpreted) (s : State) : Tame s (walked f out s) :=
  (Tame.forEach (fun g => modFlyer_tame g (takeMarkRun out.lastMark out.marks) (fun _ => rfl)) _ s).trans
    (modRun_gentle f (by intro _; rfl) _).tame

theorem flyer_walked (nodup : (concernedFlyers s f).Nodup) {r : Run} (run : (s.flyer f).run = some r) (out : Interpreted)
    (h : FlyerId) :
    (walked f out s).flyer h =
      if h ∈ concernedFlyers s f then
        { s.flyer h with
          mark := out.lastMark.getD (s.flyer h).mark, markCount := ((s.flyer h).markCount + out.marks) % 65536
          run := if h = f then some (r.placed out.pos) else (s.flyer h).run }
      else s.flyer h := by
  rw [walked, flyer_modRun, flyer_forEach_modFlyer_nodup nodup]
  by_cases same : h = f
  · subst same
    rw [if_pos rfl, if_pos (self_mem_concernedFlyers s h), if_pos (self_mem_concernedFlyers s h), if_pos rfl, takeMarkRun,
      run]
    rfl
  · simp only [if_neg same]
    rfl

/-- The run that the interpreter leaves at a record, of the flyer and of its formation. -/
theorem flyer_setStates_walked (nodup : (concernedFlyers s f).Nodup) {r : Run} (run : (s.flyer f).run = some r) (out : Interpreted)
    (k : Run → Run) (st : FlyerState) (h : FlyerId) :
    (setStates (concernedFlyers (walked f out s) f) st (modRun f k (walked f out s))).flyer h =
      if h ∈ concernedFlyers s f then
        { s.flyer h with
          mark := out.lastMark.getD (s.flyer h).mark, markCount := ((s.flyer h).markCount + out.marks) % 65536
          state := st, run := if h = f then some (k (r.placed out.pos)) else (s.flyer h).run }
      else s.flyer h := by
  have placed : ((walked f out s).flyer f).run = some (r.placed out.pos) := by
    rw [flyer_walked nodup run, if_pos (self_mem_concernedFlyers s f)]
    exact if_pos rfl
  rw [flyer_setStates_modRun k st placed, (walked_flyersOnly f out s).rigOnly.concernedFlyers, flyer_walked nodup run]
  by_cases mem : h ∈ concernedFlyers s f
  · simp only [if_pos mem]
    by_cases same : h = f
    · simp only [if_pos same]
    · simp only [if_neg same]
  · simp only [if_neg mem]

theorem leaveRun_walked (nodup : (concernedFlyers s f).Nodup) {r : Run} (run : (s.flyer f).run = some r) (out : Interpreted)
    (st : FlyerState) :
    (∀ h, (leaveRun f st (walked f out s)).flyer h =
      if h ∈ concernedFlyers s f then
        { s.flyer h with
          mark := out.lastMark.getD (s.flyer h).mark, markCount := ((s.flyer h).markCount + out.marks) % 65536
          state := st, run := none }
      else s.flyer h) ∧
    Releases (fun a => ∃ h ∈ concernedFlyers s f, a ∈ membersOf s h) s (leaveRun f st (walked f out s)) := by
  have tame := walked_tame f out s
  refine ⟨fun h => ?_, ?_⟩
  · rw [flyer_leaveRun, tame.concernedFlyers, flyer_walked nodup run]
    by_cases mem : h ∈ concernedFlyers s f
    · simp only [if_pos mem]
    · simp only [if_neg mem]
  · refine ((Releases.of_axes (walked_flyersOnly f out s).axis).trans (leaveRun_releases f st _)).congr fun a => ?_
    simp only [false_or, tame.concernedFlyers, membersOf_of_defn (tame.defn _)]

/-- Settles O26: a state given, a run ended, the entry into RELEASING, the completed release, and the interpreter's three
ends. -/
theorem stateChangesActOnEveryFlyerConcerned : Obligations.StateChangesActOnEveryFlyerConcerned := by
  unfold Obligations.StateChangesActOnEveryFlyerConcerned
  refine ⟨fun fs st s => ⟨setStates_flyersOnly fs st s, flyer_setStates fs st s⟩,
    fun f st s => ⟨leaveRun_rigOnly f st s, flyer_leaveRun f st s, fun a => ?_⟩,
    fun f r s sound apart => ?_, fun f r s run => ?_, fun f r p s sound run point => ?_⟩
  · exact ((leaveRun_releases f st s).axis a).trans (if_congr and_comm rfl rfl)
  · have gentle := setStates_gentle (concernedFlyers s f) .releasing s
    obtain ⟨engaged, stands⟩ := forEach_engage_axes (gentle.membersApart apart) (nodup_concernedFlyers sound f)
    have point (h : FlyerId) : ((setStates (concernedFlyers s f) .releasing s).flyer h).point = (s.flyer h).point := by
      rw [flyer_setStates]
      split <;> rfl
    simp only [gentle.rigOf, point, (setStates_flyersOnly _ _ s).axis] at engaged stands
    exact ⟨enterReleasing_rigOnly f r s, flyer_enterReleasing f r s, engaged, stands⟩
  · by_cases jog : r.pending = some .jog
    · obtain ⟨F, shape⟩ := setStates_modRun_flyersOnly (f := f) (concernedFlyers s f) .jogging
        (fun r => { r with pending := none, brake := 0, jogV := Vec3.zero }) s
      have flyers := flyer_setStates_modRun (fun r => { r with pending := none, brake := 0, jogV := Vec3.zero }) .jogging run
      rw [shape] at flyers
      refine ⟨F, fun _ => ⟨?_, flyers⟩, fun cue => nomatch jog.symm.trans cue⟩
      rw [completeRelease, run, Option.bind_some, jog, ← shape]
    · obtain ⟨F, shape⟩ := setStates_modRun_flyersOnly (f := f) (concernedFlyers s f) (.cueRun .moving)
        (fun r => { r with pending := none, brake := 0, v := 0 }) s
      have flyers := flyer_setStates_modRun (fun r => { r with pending := none, brake := 0, v := 0 }) (.cueRun .moving) run
      rw [shape] at flyers
      refine ⟨F, fun jog' => absurd jog' jog, fun cue => ⟨?_, flyers⟩⟩
      rw [completeRelease, run, Option.bind_some, cue, ← shape]
  · dsimp only
    rw [runInterpreter_eq run point]
    dsimp only
    generalize interpret s.dir Config.walkBound ⟨r.posCue, r.posRecord, r.stack⟩ none 0 = out
    have tame := walked_tame f out s
    have only := walked_flyersOnly f out s
    have nodup := nodup_concernedFlyers sound f
    refine ⟨fun m c i stop => ?_, fun stop => ?_, fun stop => ?_⟩
    · rw [stop]
      have dir : (walked f out s).dir = s.dir := by
        obtain ⟨F, shape⟩ := only
        rw [shape]
      refine ⟨only.trans (setStates_modRun_flyersOnly _ _ _ _), fun h => ?_⟩
      simp only [interpreterOutcome, dir, tame.limitsOf]
      exact flyer_setStates_walked nodup run out _ _ h
    · rw [stop]
      exact ⟨only.trans (setStates_modRun_flyersOnly _ _ _ _), flyer_setStates_walked nodup run out _ _⟩
    · rw [stop]
      obtain ⟨flyers, released⟩ := leaveRun_walked nodup run out .parked
      exact ⟨only.rigOnly.trans (leaveRun_rigOnly f .parked _), flyers,
        fun a => (released.axis a).trans (if_congr and_comm rfl rfl)⟩

/-! ## A flyer of no formation (R102, R106, R107) -/

theorem setStates_walked_alone (alone : Alone s f) {r : Run} (run : (s.flyer f).run = some r) (out : Interpreted)
    (k : Run → Run) (st : FlyerState) :
    setStates (concernedFlyers (walked f out s) f) st (modRun f k (walked f out s)) =
      s.setFlyer f { s.flyer f with
        mark := out.lastMark.getD (s.flyer f).mark, markCount := ((s.flyer f).markCount + out.marks) % 65536
        state := st, run := some (k (r.placed out.pos)) } := by
  have itself := concernedFlyers_of_alone alone
  refine FlyersOnly.eq_of_flyer ((walked_flyersOnly f out s).trans (setStates_modRun_flyersOnly _ _ _ _)) ⟨_, rfl⟩
    fun h => ?_
  rw [flyer_setStates_walked (itself ▸ List.nodup_singleton f) run, itself, State.flyer_setFlyer]
  by_cases same : h = f
  · subst same
    rw [if_pos (List.mem_singleton_self h), if_pos rfl, if_pos rfl]
  · rw [if_neg (by simpa using same), if_neg (Ne.symm same)]

theorem leaveRun_walked_alone (alone : Alone s f) {r : Run} (run : (s.flyer f).run = some r) (out : Interpreted)
    (st : FlyerState) :
    ∃ A,
      let v : State := { s.setFlyer f { s.flyer f with
        mark := out.lastMark.getD (s.flyer f).mark, markCount := ((s.flyer f).markCount + out.marks) % 65536
        state := st, run := none } with axes := A }
      leaveRun f st (walked f out s) = v ∧
      ∀ a, v.axis a =
        if a ∈ membersOf s f ∧ (s.axis a).state = .engaged then { s.axis a with state := .ready, committed := none }
        else s.axis a := by
  have itself := concernedFlyers_of_alone alone
  obtain ⟨flyers, released⟩ := leaveRun_walked (itself ▸ List.nodup_singleton f) run out st
  obtain ⟨A, F, shape⟩ := (walked_flyersOnly f out s).rigOnly.trans (leaveRun_rigOnly f st _)
  rw [shape] at flyers released
  simp only [itself, List.mem_singleton] at flyers
  have same : F = (s.setFlyer f { s.flyer f with
      mark := out.lastMark.getD (s.flyer f).mark, markCount := ((s.flyer f).markCount + out.marks) % 65536
      state := st, run := none }).flyers := by
    refine Vector.ext fun i hi => (flyers ⟨i, hi⟩).trans ?_
    change _ = (s.setFlyer f _).flyer ⟨i, hi⟩
    rw [State.flyer_setFlyer]
    by_cases here : (⟨i, hi⟩ : FlyerId) = f
    · rw [if_pos here, if_pos here.symm, here]
    · rw [if_neg here, if_neg (Ne.symm here)]
  refine ⟨A, by rw [shape, same]; rfl, fun a => ?_⟩
  have alone_ := released.congr fun b => show _ ↔ b ∈ membersOf s f by simp only [itself, List.mem_singleton, exists_eq_left]
  exact (alone_.axis a).trans (if_congr and_comm rfl rfl)

/-- A run of the interpreter on a flyer of no formation, by its three ends (R100, R102, R106, R107). -/
theorem runInterpreter_alone (alone : Alone s f) {r : Run} {p : Vec3} (run : (s.flyer f).run = some r)
    (point : (s.flyer f).point = some p) :
    let out := interpret s.dir Config.walkBound ⟨r.posCue, r.posRecord, r.stack⟩ none 0
    let y : Flyer := { s.flyer f with
      mark := out.lastMark.getD (s.flyer f).mark, markCount := ((s.flyer f).markCount + out.marks) % 65536 }
    (∀ m c i, out.stop = .move m c i →
      runInterpreter f s = s.setFlyer f { y with
        state := .cueRun .moving
        run := some { r.placed out.pos with seg := some (segmentOf s.dir (limitsOf s f).vp p m c i), d := 0, v := 0 } }) ∧
    (out.stop = .wait →
      runInterpreter f s = s.setFlyer f { y with state := .cueRun .waiting, run := some { r.placed out.pos with v := 0 } }) ∧
    (out.stop = .runEnd → ∃ A,
      let v : State := { s.setFlyer f { y with state := .parked, run := none } with axes := A }
      runInterpreter f s = v ∧
      ∀ a, v.axis a =
        if a ∈ membersOf s f ∧ (s.axis a).state = .engaged then { s.axis a with state := .ready, committed := none }
        else s.axis a) := by
  have ran := runInterpreter_eq run point
  dsimp only at ran ⊢
  generalize interpret s.dir Config.walkBound ⟨r.posCue, r.posRecord, r.stack⟩ none 0 = out at ran ⊢
  have tame := walked_tame f out s
  have dir : (walked f out s).dir = s.dir := tame.fields.2.2.2.1
  refine ⟨fun m c i stop => ?_, fun stop => ?_, fun stop => ?_⟩
  · rw [stop] at ran
    simp only [interpreterOutcome, dir, tame.limitsOf] at ran
    rwa [setStates_walked_alone alone run] at ran
  · rw [stop] at ran
    simp only [interpreterOutcome] at ran
    rwa [setStates_walked_alone alone run] at ran
  · rw [stop] at ran
    obtain ⟨A, shape, axes⟩ := leaveRun_walked_alone alone run out .parked
    exact ⟨A, ran.trans shape, axes⟩

/-! ## GO (R105) -/

/-- Settles O30: the interpreter's three ends on a lone flyer. -/
theorem goRunsTheInterpreterOn : Obligations.GoRunsTheInterpreterOn := by
  unfold Obligations.GoRunsTheInterpreterOn
  intro q f s taken u x passes
  have body := motionRequest_open (k := goFlyer) passes
  have meaning := exec_go q f.val s
  have waits (waiting : x.state = .cueRun .waiting) : Completed (.go q f.val) q 0x43 s (runInterpreter f u) := by
    refine taken.completed meaning (body.trans ?_)
    rw [goFlyer, waiting]
  refine ⟨fun busy => taken.refused meaning (body.trans ?_), waits, fun waiting alone r p run point => ?_⟩
  · unfold goFlyer
    split
    · next waiting => exact absurd waiting busy
    all_goals rfl
  · have went := waits waiting
    obtain ⟨moves, pauses, ends⟩ := runInterpreter_alone alone run point
    refine ⟨fun m c i stop => moves m c i stop ▸ went, fun stop => pauses stop ▸ went, fun stop => ?_⟩
    obtain ⟨A, shape, axes⟩ := ends stop
    exact ⟨A, shape ▸ went, axes⟩

end Sys2Proof.Machine
end

section
/-! The requests that start a run, START_CUE and JOG, what the pre-flight check accepts, and the velocities of a jog (R82,
R84 to R92, R125, R126, R128). -/

namespace Sys2Proof.Machine

variable {q : Req} {s t u v : State} {f g : FlyerId} {k : RigKind} {r : Run} {req : Vec3}

/-! ## A run entered and, where every brake is released, left for its state (R37, R38) -/

/-- Whether the brakes are released is read off definitions, formations and feedback. -/
theorem brakesReleased_enterReleasing (f : FlyerId) (r : Run) (s : State) :
    brakesReleased (enterReleasing f r s) f = brakesReleased s f := by
  have gentle : Gentle s (forEach (concernedFlyers s f) engage (setStates (concernedFlyers s f) .releasing s)) :=
    (setStates_gentle _ _ s).trans (Gentle.forEach engage_gentle _ _)
  have members (g : FlyerId) : membersOf (enterReleasing f r s) g = membersOf s g := by
    refine membersOf_of_defn ?_
    rw [flyer_enterReleasing]
    split <;> rfl
  have feedback (a : AxisId) : ((enterReleasing f r s).axis a).feedback = (s.axis a).feedback :=
    (gentle.axes a).feedback
  simp only [brakesReleased, (enterReleasing_rigOnly f r s).concernedFlyers, members, feedback]

theorem testRelease_enterReleasing (f : FlyerId) (r : Run) (s : State) :
    testRelease f (enterReleasing f r s) =
      if brakesReleased s f = true then completeRelease f (enterReleasing f r s) else enterReleasing f r s := by
  have state : ((enterReleasing f r s).flyer f).state = .releasing := by
    rw [flyer_enterReleasing, if_pos (self_mem_concernedFlyers s f)]
  simp only [testRelease, state, true_and, brakesReleased_enterReleasing]

/-! ## START_CUE (R82, R92) -/

/-- START_CUE on a flyer that is taken up (R82). -/
theorem startCueBody_open {cue : Nat} (low : 1 ≤ cue) (high : cue ≤ 200) (passes : MotionOpen q f true u) :
    startCueBody q f.val cue u =
      match firstRefused startable u (concernedFlyers u f) with
      | some e => refuse e.2 [] u
      | none => startChecked f cue u := by
  refine (if_neg ?_).trans (motionRequest_open passes)
  rw [within_cueNumber_iff.mpr ⟨low, high⟩]
  decide

theorem startable_parked {x : FlyerState} (parked : x = .parked) : startable x = none := by rw [parked]; rfl

/-- Settles O27: the first flyer that may not start, the report, or the run entered. -/
theorem startCueCreatesTheRun : Obligations.StartCueCreatesTheRun := by
  unfold Obligations.StartCueCreatesTheRun
  intro q f cue s taken low high u c passes
  have meaning := exec_startCue q f.val cue s
  have body := startCueBody_open low high passes
  refine ⟨fun g before after order parked r refused => ?_, fun parked k kind => ⟨fun r fails => ?_, fun reach accepted => ?_⟩⟩
  · rw [order, firstRefused_append (fun h early => startable_parked (parked h early)) refused] at body
    exact taken.refused meaning body
  · rw [firstRefused_eq_none fun h mem => startable_parked (parked h mem)] at body
    dsimp only at body
    rw [startChecked, kind] at body
    dsimp only at body
    rw [fails] at body
    exact taken.answered meaning body
  · rw [firstRefused_eq_none fun h mem => startable_parked (parked h mem)] at body
    dsimp only at body
    rw [startChecked, kind] at body
    dsimp only at body
    rw [accepted] at body
    dsimp only at body
    rw [testRelease_enterReleasing] at body
    refine ⟨fun waits => taken.completed meaning (body.trans ?_), fun free => taken.completed meaning (body.trans ?_)⟩
    · rw [if_neg (by rw [waits]; exact Bool.noConfusion)]
      rfl
    · rw [if_pos free]
      rfl

/-! ## JOG (R125) -/

/-- JOG on a flyer that is not in JOGGING (R125). -/
theorem jogFlyer_starts {w : Vec3} (kind : kindOf u f = some k) (other : (u.flyer f).state ≠ .jogging) :
    jogFlyer w f u =
      match firstRefused startable u (concernedFlyers u f) with
      | some e => refuse e.2 [] u
      | none =>
        match engagementFailure u (concerned u f) with
        | some r => (u, ⟨.preflight, .report r⟩)
        | none =>
          done (testRelease f (enterReleasing f (newJogRun (requestedVelocity k (limitsOf u f).vp w) u.t) u)) := by
  unfold jogFlyer
  rw [kind]
  exact if_neg other

theorem jogFlyer_again {w : Vec3} (kind : kindOf u f = some k) (jogging : (u.flyer f).state = .jogging) :
    jogFlyer w f u = done (jogAgain f (requestedVelocity k (limitsOf u f).vp w) u) := by
  unfold jogFlyer
  rw [kind]
  exact if_pos jogging

/-- Settles O32: a new request in JOGGING, and the rows of a start. -/
theorem jogSetsTheRequestOrStartsARun : Obligations.JogSetsTheRequestOrStartsARun := by
  unfold Obligations.JogSetsTheRequestOrStartsARun
  intro q f w k s taken u c passes kind
  have meaning := exec_jog q f.val s w
  have opened := motionRequest_open (k := jogFlyer w) passes
  refine ⟨fun jogging => taken.completed meaning (opened.trans (jogFlyer_again kind jogging)), fun other => ?_⟩
  have body := opened.trans (jogFlyer_starts kind other)
  refine ⟨fun g before after order parked r refused => ?_, fun parked => ?_⟩
  · rw [order, firstRefused_append (fun h early => startable_parked (parked h early)) refused] at body
    exact taken.refused meaning body
  · rw [firstRefused_eq_none fun h mem => startable_parked (parked h mem)] at body
    dsimp only at body
    refine ⟨fun r fails => ?_, fun sound => ?_⟩
    · rw [fails] at body
      exact taken.answered meaning body
    · rw [sound] at body
      dsimp only at body
      rw [testRelease_enterReleasing] at body
      refine ⟨fun waits => taken.completed meaning (body.trans ?_), fun free => taken.completed meaning (body.trans ?_)⟩
      · rw [if_neg (by rw [waits]; exact Bool.noConfusion)]
        rfl
      · rw [if_pos free]
        rfl

/-! ## The pre-flight check (R84 to R90) -/

section
variable {fs : List (FlyerId × Vec3)} {e : FlyerId × Vec3} {rig : Rig} {p : Vec3} {m : ExpandedMove}
  {moves : List ExpandedMove}

theorem pointFailure_of_startFailure (passes : startFailure s fs = none) (mem : e ∈ fs) (given : rigOf s e.1 = some rig)
    (point : (s.flyer e.1).point = some p) : pointFailure s.zones e.1 rig p = none := by
  induction fs with
  | nil => exact (List.not_mem_nil mem).elim
  | cons x fs ih =>
    unfold startFailure at passes
    rcases List.mem_cons.mp mem with rfl | late
    · rw [given, point] at passes
      dsimp only at passes
      split at passes
      · cases passes
      · assumption
    · refine ih ?_ late
      split at passes
      · split at passes
        · cases passes
        · exact passes
      · exact passes

theorem engagementMember_eq_none {l : List (AxisId × AxisParams × Int)} (passes : engagementMember s l = none)
    {x : AxisId × AxisParams × Int} (mem : x ∈ l) :
    ∃ fb, (s.axis x.1).feedback = some fb ∧ (countsOf x.2.1 x.2.2 - fb.counts).natAbs ≤ x.2.1.feLimit := by
  induction l with
  | nil => exact (List.not_mem_nil mem).elim
  | cons y l ih =>
    obtain ⟨a, set, len⟩ := y
    unfold engagementMember at passes
    split at passes
    · cases passes
    · next fb feedback =>
      split_ifs at passes with near
      rcases List.mem_cons.mp mem with rfl | late
      · rw [within_eq_true_iff] at near
        refine ⟨fb, feedback, ?_⟩
        dsimp only
        omega
      · exact ih passes late

theorem engagementMember_of_engagementFailure (passes : engagementFailure s fs = none) (mem : e ∈ fs)
    (given : rigOf s e.1 = some rig) (point : (s.flyer e.1).point = some p) :
    engagementMember s (lineLengths rig p) = none := by
  induction fs with
  | nil => exact (List.not_mem_nil mem).elim
  | cons x fs ih =>
    unfold engagementFailure at passes
    rcases List.mem_cons.mp mem with rfl | late
    · rw [given, point] at passes
      dsimp only at passes
      split at passes
      · cases passes
      · assumption
    · refine ih ?_ late
      split at passes
      · split at passes
        · cases passes
        · exact passes
      · exact passes

theorem tests_of_moveFailureFor {i : Nat} {start off : Vec3} (passes : moveFailureFor s i m start f off = none)
    (given : rigOf s f = some rig) :
    pointFailure s.zones f rig (mmToNano (readByKind rig.kind (m.waypoint.add off))) = none ∧
      segmentFailure s.zones f rig (start.add (mmToMicrons off))
        (mmToMicrons (readByKind rig.kind (m.waypoint.add off))) = none := by
  unfold moveFailureFor at passes
  rw [given] at passes
  dsimp only at passes
  split at passes
  · cases passes
  · next point =>
    split at passes
    · cases passes
    · next segment => exact ⟨point, segment⟩

theorem moveFailure_eq_none {i : Nat} {start : Vec3} (passes : moveFailure s i m start fs = none) (mem : e ∈ fs) :
    moveFailureFor s i m start e.1 e.2 = none := by
  induction fs with
  | nil => exact (List.not_mem_nil mem).elim
  | cons x fs ih =>
    unfold moveFailure at passes
    split at passes
    · cases passes
    · rcases List.mem_cons.mp mem with rfl | late
      · assumption
      · exact ih passes late

theorem pathFailure_cons_eq_none {i : Nat} {start : Vec3} (passes : pathFailure s k fs i start (m :: moves) = none) :
    moveFailure s i m start fs = none ∧
      pathFailure s k fs (i + 1) (mmToMicrons (readByKind k m.waypoint)) moves = none := by
  unfold pathFailure at passes
  split at passes
  · cases passes
  · next move => exact ⟨move, passes⟩

/-- The moves from any place of a path that passes are a path that passes. -/
theorem pathFailure_append_eq_none {before : List ExpandedMove} {i : Nat} {start : Vec3}
    (passes : pathFailure s k fs i start (before ++ moves) = none) :
    ∃ j start', pathFailure s k fs j start' moves = none := by
  induction before generalizing i start with
  | nil => exact ⟨i, start, passes⟩
  | cons m before ih => exact ih (pathFailure_cons_eq_none passes).2

end

/-- A list of moves no longer than the move list, and counted (R86). -/
def Counted (e : Expansion) : Prop := e.count = e.moves.length ∧ e.count ≤ 1024

theorem recordAt_of_take_move {dir : List Cue} {cap : Nat → Nat} {c next : Cursor} {m : Move}
    (taken : c.take dir cap = .move m next) : recordAt dir c.cue c.record = some (.move m) := by
  unfold Cursor.take at taken
  dsimp only at taken
  split at taken
  case h_1 here =>
    cases taken
    exact here
  case h_6 | h_7 => split at taken <;> cases taken
  all_goals cases taken

/-- The expansion lists no more moves than the list has places, as it counts them (R86). -/
theorem counted_expand {dir : List Cue} {fuel : Nat} {e out : Expansion}
    (ends : expand dir k fuel e = (out, none)) (counted : Counted e) : Counted out := by
  induction fuel generalizing e with
  | zero => cases ends
  | succ fuel ih =>
    unfold expand at ends
    split at ends
    · cases ends
    · next passed =>
      dsimp only at ends
      split at ends
      · next m next_ taken =>
        simp only [recordFailure, recordAt_of_take_move taken] at passed
        split at passed
        · cases passed
        · next room => exact ih ends ⟨by rw [List.length_cons, counted.1], not_le.mp room⟩
      · exact ih ends counted
      · exact ih ends counted
      · exact ih ends counted
      · cases ends
        exact counted

theorem counted_expandCue {dir : List Cue} {cue : Nat} {out : Expansion} (ends : expandCue dir k cue = (out, none)) :
    Counted out := by
  unfold expandCue at ends
  dsimp only at ends
  split at ends
  · cases ends
  · split at ends
    · cases ends
    · exact counted_expand ends ⟨rfl, Nat.zero_le _⟩

theorem tests_of_testFailure {moves : List ExpandedMove} (passes : testFailure s f k moves = none) :
    startFailure s (concerned s f) = none ∧
      pathFailure s k (concerned s f) 0 (((s.flyer f).point.map roundPoint).getD Vec3.zero) moves = none ∧
      engagementFailure s (concerned s f) = none := by
  unfold testFailure at passes
  dsimp only at passes
  split at passes
  · cases passes
  · next start =>
    split at passes
    · cases passes
    · next path =>
      refine ⟨start, ?_, passes⟩
      cases point : (s.flyer f).point <;> rw [point] at path <;> exact path

/-- Settles O28: the tests of the start, of the path from any of its moves, and of the engagement. -/
theorem preflightAcceptsOnlyWhatPassesEveryTest : Obligations.PreflightAcceptsOnlyWhatPassesEveryTest := by
  unfold Obligations.PreflightAcceptsOnlyWhatPassesEveryTest
  intro s f k cue reach accepted
  obtain ⟨e, expansion, passes, rfl⟩ := preflight_eq_ok accepted
  obtain ⟨started, size, present⟩ := reaches_preflight accepted
  obtain ⟨start, path, engagement⟩ := tests_of_testFailure passes
  obtain ⟨count, room⟩ := counted_expandCue expansion
  refine ⟨started, size, present, e, expansion, rfl, count ▸ room, fun g mem r rig => ⟨fun p point => ⟨?_, fun l inLines => ?_⟩,
    fun m inMoves => ?_, fun p point m rest order => ?_, fun before m n after order => ?_⟩⟩
  · exact pointFailure_of_startFailure start mem rig point
  · exact engagementMember_eq_none (engagementMember_of_engagementFailure engagement mem rig point) inLines
  · obtain ⟨before, after, order⟩ := List.append_of_mem (List.mem_reverse.mpr inMoves)
    rw [order] at path
    obtain ⟨j, from_, passed⟩ := pathFailure_append_eq_none path
    exact (tests_of_moveFailureFor (moveFailure_eq_none (pathFailure_cons_eq_none passed).1 mem) rig).1
  · rw [order, point] at path
    exact (tests_of_moveFailureFor (moveFailure_eq_none (pathFailure_cons_eq_none path).1 mem) rig).2
  · rw [order] at path
    obtain ⟨j, from_, passed⟩ := pathFailure_append_eq_none path
    have next_ := (pathFailure_cons_eq_none (pathFailure_cons_eq_none passed).2).1
    exact (tests_of_moveFailureFor (moveFailure_eq_none next_ mem) rig).2

/-! ## Vectors held to a magnitude (R126, R128) -/

theorem rootNearest_le_iff {a n : Nat} : rootNearest a ≤ n ↔ a ≤ n * n + n := by
  obtain ⟨below, above⟩ := rootNearest_bracket a
  constructor
  · intro small
    calc a ≤ rootNearest a * rootNearest a + rootNearest a := above
      _ ≤ n * n + n := Nat.add_le_add (Nat.mul_le_mul small small) small
  · intro small
    by_contra large
    rcases below with zero | below
    · omega
    · nlinarith

theorem magnitude_nonneg (v : Vec3) : 0 ≤ magnitude v := Int.natCast_nonneg _

theorem sq_eq (v : Vec3) : v.sq = v.x * v.x + v.y * v.y + v.z * v.z := rfl

theorem sq_nonneg' (v : Vec3) : 0 ≤ v.sq := by
  rw [sq_eq]
  nlinarith [mul_self_nonneg v.x, mul_self_nonneg v.y, mul_self_nonneg v.z]

theorem magnitude_le_iff {v : Vec3} {n : Int} (n0 : 0 ≤ n) : magnitude v ≤ n ↔ v.sq ≤ n * n + n := by
  obtain ⟨n, rfl⟩ := Int.eq_ofNat_of_zero_le n0
  have square := sq_nonneg' v
  unfold magnitude
  rw [Int.ofNat_le, rootNearest_le_iff]
  constructor
  · intro small
    have cast : ((v.sq.toNat : Nat) : Int) ≤ ((n * n + n : Nat) : Int) := by exact_mod_cast small
    rw [Int.toNat_of_nonneg square] at cast
    exact_mod_cast cast
  · intro small
    have cast : ((v.sq.toNat : Nat) : Int) ≤ ((n * n + n : Nat) : Int) := by
      rw [Int.toNat_of_nonneg square]
      exact_mod_cast small
    exact_mod_cast cast

/-- A product cut toward zero is no longer than the product itself. -/
theorem towardZero_sq_le (c n d : Int) :
    (towardZero (c * n) d * d) * (towardZero (c * n) d * d) ≤ (c * n) * (c * n) := by
  have cut : (towardZero (c * n) d * d).natAbs ≤ (c * n).natAbs := by
    rw [towardZero, Int.natAbs_mul, Int.natAbs_tdiv]
    exact Nat.div_mul_le_self _ _
  exact Int.natAbs_le_iff_mul_self_le.mp cut

theorem towardZero_natAbs_le (c : Int) {n d : Int} (n0 : 0 ≤ n) (less : n ≤ d) (d0 : 0 < d) :
    (towardZero (c * n) d).natAbs ≤ c.natAbs := by
  rw [towardZero, Int.natAbs_tdiv, Int.natAbs_mul]
  refine Nat.div_le_of_le_mul ?_
  rw [Nat.mul_comm]
  exact Nat.mul_le_mul_right _ (by omega)

/-- A vector longer than a bound, scaled back to it, is within it (R126, R128). -/
theorem magnitude_scaleTowardZero_le {v : Vec3} {n : Int} (n0 : 0 ≤ n) (long : n < magnitude v) :
    magnitude (scaleTowardZero n (magnitude v) v) ≤ n := by
  have length : v.sq ≤ magnitude v * magnitude v + magnitude v := (magnitude_le_iff (magnitude_nonneg v)).mp le_rfl
  rw [magnitude_le_iff n0]
  generalize magnitude v = d at long length ⊢
  have d0 : 0 < d := lt_of_le_of_lt n0 long
  have scaled : (scaleTowardZero n d v).sq * (d * d) ≤ v.sq * (n * n) := by
    have hx := towardZero_sq_le v.x n d
    have hy := towardZero_sq_le v.y n d
    have hz := towardZero_sq_le v.z n d
    rw [sq_eq, sq_eq]
    simp only [scaleTowardZero, Vec3.map]
    linarith
  by_contra exceeds
  have far : n * n + n + 1 ≤ (scaleTowardZero n d v).sq := by omega
  have wide : (n * n + n + 1) * (d * d) ≤ (d * d + d) * (n * n) :=
    (mul_le_mul_of_nonneg_right far (mul_nonneg d0.le d0.le)).trans
      (scaled.trans (mul_le_mul_of_nonneg_right length (mul_nonneg n0 n0)))
  have tight : (n + 1) * d * d ≤ n * n * d := by linarith
  have small := le_of_mul_le_mul_right tight d0
  nlinarith

theorem magnitude_heldToVp_le (vp : Nat) (v : Vec3) : magnitude (heldToVp vp v) ≤ 1000 * (vp : Int) := by
  unfold heldToVp
  split
  · next long => exact magnitude_scaleTowardZero_le (by positivity) long
  · next short => exact not_lt.mp short

theorem clampTo_eq (vp : Nat) (c : Int) : clampTo (-(vp : Int)) vp c = max (-(vp : Int)) (min (vp : Int) c) := by
  unfold clampTo
  split_ifs <;> omega

/-- A component of a vector held to Vp is no longer than that of the vector. -/
theorem heldToVp_natAbs_le (vp : Nat) (v : Vec3) :
    (heldToVp vp v).x.natAbs ≤ v.x.natAbs ∧ (heldToVp vp v).y.natAbs ≤ v.y.natAbs ∧
      (heldToVp vp v).z.natAbs ≤ v.z.natAbs := by
  unfold heldToVp
  split
  · next long =>
    have n0 : 0 ≤ 1000 * (vp : Int) := by positivity
    have cut (c : Int) := towardZero_natAbs_le c n0 long.le (lt_of_le_of_lt n0 long)
    exact ⟨cut v.x, cut v.y, cut v.z⟩
  · exact ⟨le_rfl, le_rfl, le_rfl⟩

theorem nextVelocity_le (vp : Nat) (limit : Int) (v target : Vec3) :
    magnitude (nextVelocity vp limit v target) ≤ 1000 * (vp : Int) := magnitude_heldToVp_le vp _

/-- Settles O33: the requested velocity and the frame's velocity, each held to Vp. -/
theorem requestedVelocityIsHeldToVp : Obligations.RequestedVelocityIsHeldToVp := by
  unfold Obligations.RequestedVelocityIsHeldToVp
  intro held toward
  refine ⟨fun k vp w => ?_, fun lim t r why => ⟨rfl, rfl, nextVelocity_le .., nextVelocity_le ..⟩⟩
  have clamped : requestedVelocity k vp w =
      heldToVp vp ((readByKind k w).map fun x => 1000 * max (-(vp : Int)) (min (vp : Int) x)) := by
    simp only [requestedVelocity, clampTo_eq]
  have short (c : Int) : (1000 * max (-(vp : Int)) (min (vp : Int) c)).natAbs ≤ 1000 * vp := by omega
  obtain ⟨hx, hy, hz⟩ := heldToVp_natAbs_le vp ((readByKind k w).map fun x => 1000 * max (-(vp : Int)) (min (vp : Int) x))
  dsimp only
  rw [clamped]
  refine ⟨rfl, hx.trans (short _), hy.trans (short _), hz.trans (short _), magnitude_heldToVp_le vp _, ?_, ?_, ?_⟩
  · rintro rfl
    simp only [readByKind, Vec3.map] at hx hy ⊢
    omega
  · rintro rfl
    simp only [readByKind, Vec3.map] at hy ⊢
    omega
  · intro wx wy wz near
    have within_ (c : Int) (small : c.natAbs ≤ vp) : 1000 * max (-(vp : Int)) (min (vp : Int) c) = 1000 * c := by omega
    have same : ((readByKind k w).map fun x => 1000 * max (-(vp : Int)) (min (vp : Int) x)) = (readByKind k w).scale 1000 := by
      have zero := within_ 0 (Nat.zero_le _)
      cases k <;> simp only [readByKind, Vec3.map, Vec3.scale, within_ _ wx, within_ _ wy, within_ _ wz, zero]
    rw [same]
    exact if_neg near.not_gt

end Sys2Proof.Machine
end

section
/-! LOCATE, and the airspace's requests with the remaining path of a flyer (R36, R53, R55 to R57). -/

namespace Sys2Proof.Machine

variable {q : Req} {s t u v : State} {f g : FlyerId} {p : Vec3} {r : Rig} {z : Zone} {n : Nat}

/-! ## The tests of a point (R36, R49, R87) -/

theorem mem_allZones (z : ZoneId) : z ∈ allZones := by fin_cases z <;> decide

theorem limitFailure_eq_none {l : List (AxisId × AxisParams × Int)} (passes : limitFailure l = none) :
    ∀ e ∈ l, 1000 * (e.2.1.lmin : Int) ≤ e.2.2 ∧ e.2.2 ≤ 1000 * (e.2.1.lmax : Int) := by
  induction l with
  | nil => exact fun _ mem => (List.not_mem_nil mem).elim
  | cons x l ih =>
    obtain ⟨a, set, len⟩ := x
    unfold limitFailure at passes
    split_ifs at passes with long short
    exact List.forall_mem_cons.mpr ⟨⟨not_lt.mp short, not_lt.mp long⟩, ih passes⟩

theorem pointFailure_eq_none {zones : Vector Zone 8} (passes : pointFailure zones f r p = none) :
    r.volume.holds (ringPoint r p) = true ∧
    (∀ z : ZoneId, zones[z].applies f = true → zones[z].box.holds (ringPoint r p) = false) ∧
    geometryFailure r p = none ∧ limitFailure (lineLengths r p) = none := by
  unfold pointFailure at passes
  dsimp only at passes
  split at passes
  · cases passes
  · next inside =>
    split at passes
    · cases passes
    · next clear =>
      split at passes
      · cases passes
      · next shape =>
        refine ⟨by simpa using inside, fun z applies => ?_, shape, passes⟩
        have out := List.find?_eq_none.mp clear z (mem_allZones z)
        rw [Bool.and_eq_true, not_and, Bool.not_eq_true] at out
        exact out applies

theorem locateMismatch_eq_none {tol : Nat} {l : List (AxisId × AxisParams × Int)} (passes : locateMismatch s tol l = none) :
    ∀ e ∈ l, ∃ fb, (s.axis e.1).feedback = some fb ∧
      (measuredLength e.2.1 fb.counts - e.2.2).natAbs ≤ 1000 * tol := by
  induction l with
  | nil => exact fun _ mem => (List.not_mem_nil mem).elim
  | cons x l ih =>
    obtain ⟨a, set, len⟩ := x
    unfold locateMismatch at passes
    split at passes
    · cases passes
    · next fb feedback =>
      split_ifs at passes with near
      rw [within_eq_true_iff] at near
      refine List.forall_mem_cons.mpr ⟨⟨fb, feedback, ?_⟩, ih passes⟩
      dsimp only
      omega

theorem locateFailure_eq_none (given : rigOf s f = some r) (passes : locateFailure s f p = none) :
    pointFailure s.zones f r p = none ∧ locateMismatch s r.tol (lineLengths r p) = none := by
  unfold locateFailure at passes
  rw [given] at passes
  dsimp only at passes
  split at passes
  · cases passes
  · next point =>
    split at passes
    · cases passes
    · next lengths => exact ⟨point, lengths⟩

/-! ## LOCATE (R36) -/

theorem takePoints_flyersOnly (p : Vec3) (fs : List (FlyerId × Vec3)) (s : State) : FlyersOnly s (takePoints p fs s) :=
  FlyersOnly.forEach (fun (e : FlyerId × Vec3) => modFlyer_flyersOnly e.1 _) fs s

/-- LOCATE on a flyer that is taken up (R36). -/
theorem locateBody_open (inRange : locateInRange u f p = true) (passes : MotionOpen q f false u) :
    locateBody q f.val p u =
      match firstRefused locatable u (concernedFlyers u f) with
      | some e => refuse e.2 [] u
      | none =>
        match locateRefusal u p (concerned u f) with
        | some r => refuse r.1 r.2 u
        | none => done (takePoints p (concerned u f) u) :=
  (locateBody_inRange inRange).trans (motionRequest_open passes)

/-- Settles O19: what a point that passes meets, and the rows of LOCATE. -/
theorem locateTakesThePointOfEveryFlyerConcerned : Obligations.LocateTakesThePointOfEveryFlyerConcerned := by
  unfold Obligations.LocateTakesThePointOfEveryFlyerConcerned
  refine ⟨fun s f p r given passes => ?_, fun q f p s taken => ?_⟩
  · obtain ⟨point, lengths⟩ := locateFailure_eq_none given passes
    obtain ⟨volume, zones, shape, limits⟩ := pointFailure_eq_none point
    refine ⟨volume, zones, shape, fun e mem => ?_⟩
    obtain ⟨low, high⟩ := limitFailure_eq_none limits e mem
    exact ⟨low, high, locateMismatch_eq_none lengths e mem⟩
  · have meaning := exec_locate q f.val s p
    refine ⟨fun out => taken.refused meaning ?_, fun inRange passes sound => ?_⟩
    · rw [locateBody, flyerNamed_val]
      exact if_pos out
    · have body := locateBody_open inRange passes
      refine ⟨fun g before after order rest r refused => ?_, fun rest => ⟨fun r fails => ?_, fun passed => ?_⟩⟩
      · rw [order, firstRefused_append rest refused] at body
        exact taken.refused meaning body
      · rw [firstRefused_eq_none rest] at body
        dsimp only at body
        rw [fails] at body
        exact taken.refused meaning body
      · rw [firstRefused_eq_none rest] at body
        dsimp only at body
        rw [passed] at body
        have flyer := flyer_forEach_modFlyer (fun e : FlyerId × Vec3 => e.1)
          (fun e x => { x with point := some (mmToNano (p.add e.2)), located := true, state := .parked })
          (concerned (arrived q s) f) (arrived q s) (nodup_concernedFlyers sound f)
        have others (g : FlyerId) (outside : g ∉ concernedFlyers (arrived q s) f) :=
          flyer_forEach_modFlyer_of_notMem (fun e : FlyerId × Vec3 => e.1)
            (fun e x => { x with point := some (mmToNano (p.add e.2)), located := true, state := .parked })
            g (concerned (arrived q s) f) (arrived q s) outside
        obtain ⟨F, shape⟩ := takePoints_flyersOnly p (concerned (arrived q s) f) (arrived q s)
        rw [takePoints] at shape
        rw [shape] at flyer others
        rw [takePoints, shape] at body
        exact ⟨F, taken.completed meaning body, others, flyer⟩

/-! ## The first of a kind, of flyers and of segments -/

/-- The first answer of a list in order is that of the least element that gives one. -/
theorem findSome?_eq_some_iff_least {α β : Type} [LinearOrder α] {k : α → Option β} {l : List α}
    (order : l.Pairwise (· < ·)) (all : ∀ x, x ∈ l) (b : β) :
    l.findSome? k = some b ↔ ∃ x, k x = some b ∧ ∀ y, y < x → k y = none := by
  rw [List.findSome?_eq_some_iff]
  constructor
  · rintro ⟨before, x, after, rfl, answer, none⟩
    refine ⟨x, answer, fun y less => ?_⟩
    rcases List.mem_append.mp (all y) with early | late
    · exact none y early
    · obtain ⟨-, rest, -⟩ := List.pairwise_append.mp order
      rcases List.mem_cons.mp late with rfl | later
      · exact absurd less (lt_irrefl _)
      · exact absurd ((List.pairwise_cons.mp rest).1 y later) less.asymm
  · rintro ⟨x, answer, least⟩
    obtain ⟨before, after, rfl⟩ := List.append_of_mem (all x)
    exact ⟨before, x, after, rfl, answer, fun y early =>
      least y ((List.pairwise_append.mp order).2.2 y early x List.mem_cons_self)⟩

theorem firstEntering_eq (b : Box) (i : Nat) (l : List (Vec3 × Vec3)) :
    firstEntering b i l = (l.findIdx? fun g => segmentEnters Config.guardMicrons b g.1 g.2).map fun j => j + i := by
  induction l generalizing i with
  | nil => rfl
  | cons g l ih =>
    rw [firstEntering, List.findIdx?_cons, ih]
    split
    · simp
    · rw [Option.map_map]
      refine congrArg (fun k => Option.map k _) (funext fun j => ?_)
      simp only [Function.comp_apply]
      omega

/-- A segment of the list, by its index, enters the guard box. -/
def EntersAt (b : Box) (l : List (Vec3 × Vec3)) (i : Nat) : Prop :=
  ∃ g, l[i]? = some g ∧ segmentEnters Config.guardMicrons b g.1 g.2 = true

theorem firstEntering_eq_none_iff (b : Box) (l : List (Vec3 × Vec3)) :
    firstEntering b 0 l = none ↔ ∀ i, ¬EntersAt b l i := by
  rw [firstEntering_eq, Option.map_eq_none_iff, List.findIdx?_eq_none_iff]
  constructor
  · rintro none i ⟨g, here, enters⟩
    rw [none g (List.mem_of_getElem? here)] at enters
    cases enters
  · intro none g mem
    obtain ⟨i, here⟩ := List.getElem?_of_mem mem
    exact Bool.eq_false_iff.mpr fun enters => none i ⟨g, here, enters⟩

theorem firstEntering_eq_some_iff (b : Box) (l : List (Vec3 × Vec3)) (i : Nat) :
    firstEntering b 0 l = some i ↔ EntersAt b l i ∧ ∀ j, j < i → ¬EntersAt b l j := by
  rw [firstEntering_eq]
  simp only [Nat.add_zero, Option.map_id', List.findIdx?_eq_some_iff_getElem]
  constructor
  · rintro ⟨bound, enters, first⟩
    refine ⟨⟨l[i], List.getElem?_eq_getElem bound, enters⟩, fun j less => ?_⟩
    rintro ⟨g, here, also⟩
    rw [List.getElem?_eq_getElem (less.trans bound)] at here
    cases here
    exact first j less also
  · rintro ⟨⟨g, here, enters⟩, first⟩
    obtain ⟨bound, rfl⟩ := List.getElem?_eq_some_iff.mp here
    exact ⟨bound, enters, fun j less also =>
      first j less ⟨_, List.getElem?_eq_getElem (less.trans bound), also⟩⟩

/-! ## SET_ZONE and SET_SEPARATION (R55, R56) -/

/-- A flyer stands in the box of a zone whose mask holds it (R56). -/
def StandsIn (s : State) (z : Zone) (f : FlyerId) : Prop :=
  z.applies f = true ∧ (s.flyer f).located = true ∧ ∃ p, ringOf s f = some p ∧ z.box.holds p = true

/-- A segment of a flyer's remaining path, by its index, is cut by a zone whose mask holds the flyer (R56, R57). -/
def CutAt (s : State) (z : Zone) (f : FlyerId) (i : Nat) : Prop :=
  z.applies f = true ∧ EntersAt z.box (remainingPath s f) i

/-- The model's test of a flyer against a zone's box (R56). -/
def standsIn (s : State) (z : Zone) (f : FlyerId) : Bool :=
  match (s.flyer f).located, ringOf s f with
  | true, some p => z.applies f && z.box.holds p
  | _, _ => false

theorem standsIn_iff {f : FlyerId} : standsIn s z f = true ↔ StandsIn s z f := by
  unfold standsIn StandsIn
  cases (s.flyer f).located <;> cases ringOf s f <;> simp

theorem zoneOccupant_eq (s : State) (z : Zone) : zoneOccupant s z = allFlyers.find? (standsIn s z) := rfl

theorem zoneOccupant_eq_none_iff (s : State) (z : Zone) : zoneOccupant s z = none ↔ ∀ f, ¬StandsIn s z f := by
  simp only [zoneOccupant_eq, List.find?_eq_none, mem_allFlyers, true_imp_iff, standsIn_iff]

theorem zoneOccupant_eq_some_iff (s : State) (z : Zone) (f : FlyerId) :
    zoneOccupant s z = some f ↔ StandsIn s z f ∧ ∀ g, g < f → ¬StandsIn s z g := by
  simp only [zoneOccupant_eq, allFlyers_find?_eq_some_iff, ← Bool.not_eq_true, standsIn_iff]

/-- The first segment of a flyer that a zone cuts. -/
def firstCut (s : State) (z : Zone) (f : FlyerId) : Option (FlyerId × Nat) :=
  if z.applies f then (firstEntering z.box 0 (remainingPath s f)).map fun i => (f, i) else none

theorem firstCut_eq_none_iff (s : State) (z : Zone) (f : FlyerId) : firstCut s z f = none ↔ ∀ i, ¬CutAt s z f i := by
  unfold firstCut CutAt
  split
  · next applies => simp only [Option.map_eq_none_iff, firstEntering_eq_none_iff, applies, true_and]
  · next spared => simp only [spared, Bool.false_eq_true, false_and, not_false_eq_true, implies_true]

theorem firstCut_eq_some_iff (s : State) (z : Zone) (f g : FlyerId) (i : Nat) :
    firstCut s z g = some (f, i) ↔ g = f ∧ CutAt s z f i ∧ ∀ j, j < i → ¬CutAt s z f j := by
  unfold firstCut CutAt
  by_cases same : g = f
  · subst same
    split
    · next applies => simp [firstEntering_eq_some_iff, applies]
    · next spared => simp [spared]
  · simp [same]

theorem pathCut_eq_none_iff (s : State) (z : Zone) : pathCut s z = none ↔ ∀ f i, ¬CutAt s z f i := by
  change allFlyers.findSome? (firstCut s z) = none ↔ _
  simp only [List.findSome?_eq_none_iff, mem_allFlyers, true_imp_iff, firstCut_eq_none_iff]

theorem pathCut_eq_some_iff (s : State) (z : Zone) (f : FlyerId) (i : Nat) :
    pathCut s z = some (f, i) ↔ CutAt s z f i ∧ (∀ j, j < i → ¬CutAt s z f j) ∧ ∀ g j, g < f → ¬CutAt s z g j := by
  change allFlyers.findSome? (firstCut s z) = _ ↔ _
  rw [findSome?_eq_some_iff_least (by decide) mem_allFlyers]
  simp only [firstCut_eq_some_iff, firstCut_eq_none_iff]
  constructor
  · rintro ⟨_, ⟨rfl, cut, first⟩, least⟩
    exact ⟨cut, first, fun g j less => least g less j⟩
  · rintro ⟨cut, first, least⟩
    exact ⟨f, ⟨rfl, cut, first⟩, fun g less j => least g j less⟩

theorem setZoneBody_val (z : ZoneId) {fields : ZoneFields} {r : Zone} (named : zoneOf fields = some r) :
    setZoneBody z.val fields u =
      if u.image = .saving then refuse .busy [] u
      else match zoneOccupant u r with
      | some f => refuse .occupied [⟨.flyer, f.val⟩] u
      | none =>
        match pathCut u r with
        | some e => refuse .inUse [⟨.flyer, e.1.val⟩, ⟨.pathSegment, e.2⟩] u
        | none => done (u.setZone z r) := by
  simp only [setZoneBody, zoneNamed_val, named, saving_iff] <;> rfl

theorem setZoneBody_unnamed {fields : ZoneFields} (bad : zoneOf fields = none) (n : Nat) :
    setZoneBody n fields u = refuse .badValue [] u := by
  unfold setZoneBody
  rw [bad]
  cases zoneNamed n <;> rfl

/-- A zone that is not enabled applies to no flyer (R48). -/
theorem applies_of_disabled (off : z.enabled = false) (f : FlyerId) : z.applies f = false := by
  rw [Zone.applies, off, Bool.false_and]

theorem separationInRange_iff : separationInRange n = true ↔ n ≤ 10000 := by
  rw [separationInRange, within_eq_true_iff]
  omega

theorem pairTooClose_iff (s : State) (n : Nat) (f g : FlyerId) : pairTooClose s n f g = true ↔
    f ≠ g ∧ g ∉ concernedFlyers s f ∧ (s.flyer f).located = true ∧ (s.flyer g).located = true ∧
      ∃ p q, ringOf s f = some p ∧ ringOf s g = some q ∧ (p.sub q).sq < (1000 * (n : Int)) * (1000 * (n : Int)) := by
  unfold pairTooClose locatedRing
  cases (s.flyer f).located <;> cases (s.flyer g).located <;> cases ringOf s f <;> cases ringOf s g <;>
    simp [sameFormation, closer, and_assoc]

/-! ## The remaining path (R57) -/

theorem successivePairs_eq (l : List Vec3) : successivePairs l = l.zip l.tail := by
  match l with
  | [] => rfl
  | [p] => rfl
  | p :: q :: rest =>
    rw [successivePairs, successivePairs_eq (q :: rest)]
    rfl

theorem atMostTwo_eq (n : Nat) : atMostTwo n = min n 2 := by
  unfold atMostTwo
  split <;> omega

theorem cappedStack_eq (st : List StackEntry) :
    cappedStack st = st.map fun e =>
      match e with
      | .ret c i => .ret c i
      | .rep c b n => .rep c b (min n 2) := by
  unfold cappedStack
  refine List.map_congr_left fun e _ => ?_
  cases e with
  | ret c i => rfl
  | rep c b n => exact congrArg _ (atMostTwo_eq n)

/-- A flyer's own offset is found in its formation (R45). -/
theorem offset_of_mem_concerned {o : Vec3} (sound : FormationsSound s) (mem : (f, o) ∈ concerned s f) :
    ((concerned s f).find? fun e => decide (e.1 = f)) = some (f, o) := by
  have nodup := nodup_concernedFlyers sound f
  unfold concernedFlyers at nodup
  obtain ⟨before, after, order⟩ := List.append_of_mem mem
  rw [order, List.map_append, List.map_cons] at nodup
  rw [order, List.find?_append, List.find?_eq_none.mpr, Option.none_or, List.find?_cons_of_pos (by simp)]
  intro e early
  have apart := (List.nodup_append.mp nodup).2.2 e.1 (List.mem_map_of_mem early) f List.mem_cons_self
  simpa using apart

theorem remainingPath_of_no_run (idle : (s.flyer (leaderOf s f)).run = none) : remainingPath s f = [] := by
  unfold remainingPath
  dsimp only
  rw [idle]
  cases rigOf s (leaderOf s f) <;> cases (s.flyer (leaderOf s f)).point <;> rfl

/-- The remaining path of a flyer from the end of the current segment on, in ring coordinates and at the flyer's offset
(R52, R57). -/
theorem remainingPath_eq {o : Vec3} {rig : Rig} {run : Run} (sound : FormationsSound s) (mem : (f, o) ∈ concerned s f)
    (given : rigOf s (leaderOf s f) = some rig) (runs : (s.flyer (leaderOf s f)).run = some run)
    (point : (s.flyer (leaderOf s f)).point = some p) :
    let st := (s.flyer (leaderOf s f)).state
    let later := waypointsFrom s.dir Config.walkBound { run.cursor with stack := cappedStack run.stack }
    let points := (roundPoint p :: (currentEnd st run ++ later.map fun w => mmToMicrons (readByKind rig.kind w))).map
      fun v => (ringOfRounded rig v).add (mmToMicrons o)
    remainingPath s f = if hasRemainingPath st run = true then points.zip points.tail else [] := by
  unfold remainingPath
  dsimp only
  rw [offset_of_mem_concerned sound mem, given, point, runs]
  dsimp only
  refine if_congr Iff.rfl ?_ rfl
  rw [remainingSegments, successivePairs_eq, ← List.map_tail, List.zip_map]
  rfl

/-- The end of the current segment is part of the path in every state but RELEASING, DWELLING and WAITING (R57). -/
theorem currentEnd_eq (st : FlyerState) (run : Run) :
    currentEnd st run =
      match st with
      | .releasing | .cueRun .dwelling | .cueRun .waiting | .held .dwelling | .held .waiting => []
      | _ => (run.seg.map fun g => roundPoint g.stop).toList := by
  unfold currentEnd
  cases run.seg <;> rcases st with _ | _ | _ | _ | _ | (_ | _ | _) | _ | (_ | _ | _) | _ | _ | _ <;> rfl

/-- Settles O20: the rows of R55 and R56, the first of each kind, and the remaining path. -/
theorem zoneAndSeparationEditsAreTestedInOrder : Obligations.ZoneAndSeparationEditsAreTestedInOrder := by
  unfold Obligations.ZoneAndSeparationEditsAreTestedInOrder
  refine ⟨fun q z fields n s taken => ?_, fun s z => ⟨zoneOccupant_eq_none_iff s z, zoneOccupant_eq_some_iff s z,
    pathCut_eq_none_iff s z, pathCut_eq_some_iff s z⟩, pairTooClose_iff, fun s f o rig r p sound mem given runs point => ?_,
    fun s f => remainingPath_of_no_run, fun dir fuel cue i st => ?_⟩
  · have setting := exec_setZone q z.val s fields
    have separating := exec_setSeparation q n s
    refine ⟨fun bad => taken.refused setting (setZoneBody_unnamed bad z.val), fun r named => ?_, fun out => ?_, fun range => ?_⟩
    · have row := setZoneBody_val (u := arrived q s) z named
      refine ⟨fun saves => taken.refused setting (row.trans (if_pos saves)), fun idle => ?_⟩
      rw [if_neg idle] at row
      refine ⟨fun f inside => ?_, fun empty => ?_, fun off => ?_⟩
      · rw [inside] at row
        exact taken.refused setting row
      · rw [empty] at row
        refine ⟨fun f i cut => ?_, fun clear => ?_⟩
        · rw [cut] at row
          exact taken.refused setting row
        · rw [clear] at row
          exact taken.completed setting row
      · have spared := applies_of_disabled off
        rw [(zoneOccupant_eq_none_iff _ r).mpr fun f inside => Bool.noConfusion ((spared f).symm.trans inside.1),
          (pathCut_eq_none_iff _ r).mpr fun f i cut => Bool.noConfusion ((spared f).symm.trans cut.1)] at row
        exact taken.completed setting row
    · exact taken.refused separating (if_pos (Bool.eq_false_iff.mpr fun range => by
        rw [separationInRange_iff] at range
        omega))
    · have row : setSeparationBody n (arrived q s) = _ := if_neg (by rw [separationInRange_iff.mpr range]; decide)
      simp only [saving_iff] at row
      refine ⟨fun saves => taken.refused separating (row.trans (if_pos saves)), fun idle => ?_⟩
      rw [if_neg idle] at row
      refine ⟨fun f g close => ?_, fun apart => ?_⟩
      · rw [close] at row
        exact taken.refused separating row
      · have ordered : ∀ e ∈ flyerPairs, e.1 < e.2 := by decide
        rw [List.find?_eq_none.mpr fun e mem => Bool.eq_false_iff.mp (apart e.1 e.2 (ordered e mem))] at row
        exact taken.completed separating row
  · have path := remainingPath_eq sound mem given runs point
    dsimp only at path ⊢
    rw [path, cappedStack_eq, currentEnd_eq]
    rfl
  · dsimp only
    cases here : recordAt dir cue i with
    | none =>
      refine ⟨?_, ?_⟩
      · rintro c j rest rfl
        rw [waypointsFrom, take_return here]
      · rintro rfl
        rw [waypointsFrom, take_end here]
    | some r =>
      cases r with
      | move x => rw [waypointsFrom, take_move here]
      | wait => rw [waypointsFrom, take_wait here]
      | mark n => rw [waypointsFrom, take_mark here]
      | call n => rw [waypointsFrom, take_call here]
      | rep n => rw [waypointsFrom, take_rep here, atMostTwo_eq]
      | endRep =>
        rintro c b n rest rfl
        rw [waypointsFrom, take_endRep here]

end Sys2Proof.Machine
end

section
/-! The supervision of an axis, in each state (R25, R143 to R147). -/

namespace Sys2Proof.Machine

variable {s t u v : State} {a : AxisId} {fb : Feedback} {prev : Option Feedback} {x : Axis}

/-! ## The tests of a sound axis (R143 to R145) -/

theorem overloaded_eq (p : Option AxisParams) (load : Nat) :
    overloaded p load = p.any fun p => decide (p.loadMax < load) := by
  cases p <;> rfl

theorem followingFails_eq (x : Axis) (fb : Feedback) :
    followingFails x fb = x.params.any fun p => decide (p.feLimit < (x.previous - fb.counts).natAbs) := by
  unfold followingFails followingError
  cases x.params with
  | none => rfl
  | some p => simp only [Option.any_some, Nat.cast_lt]

theorem slackAfter_eq (x : Axis) (fb : Feedback) :
    slackAfter x fb = if x.params.any (fun p => decide (fb.load < p.slackMin)) = true then x.slack + 1 else 0 := by
  unfold slackAfter slackLoad
  cases x.params <;> rfl

theorem firstFault_driveFault (broken : fb.driveFault = true) : firstFault x fb = some (.driveFault, .none) := by
  simp only [firstFault, broken, if_true]

theorem firstFault_positionLost (sound : fb.driveFault = false) (referenced : x.state = .ready ∨ x.state = .engaged)
    (lost : fb.posValid = false) : firstFault x fb = some (.positionLost, .none) := by
  simp [firstFault, sound, referenced, lost]

theorem firstFault_overload (sound : fb.driveFault = false)
    (known : ¬((x.state = .ready ∨ x.state = .engaged) ∧ fb.posValid = false)) (heavy : overloaded x.params fb.load = true) :
    firstFault x fb = some (.overload, .number (fb.load : Nat)) := by
  have held : (decide (x.state = .ready ∨ x.state = .engaged) && !fb.posValid) = false := by
    rw [Bool.eq_false_iff]
    simpa using known
  simp only [firstFault, sound, held, heavy, Bool.false_eq_true, if_false, if_true]

theorem firstFault_light (sound : fb.driveFault = false)
    (known : ¬((x.state = .ready ∨ x.state = .engaged) ∧ fb.posValid = false)) (light : overloaded x.params fb.load = false) :
    firstFault x fb =
      if x.state = .engaged ∧ followingFails x fb = true then some (.followingError, .number (followingError x fb))
      else none := by
  have held : (decide (x.state = .ready ∨ x.state = .engaged) && !fb.posValid) = false := by
    rw [Bool.eq_false_iff]
    simpa using known
  simp only [firstFault, sound, held, light, Bool.false_eq_true, if_false, Bool.and_eq_true, decide_eq_true_eq]

/-! ## Warnings and the supervision of a FAULTED axis (R146, R147) -/

theorem rose_iff (flag : Feedback → Bool) (prev : Option Feedback) (fb : Feedback) :
    rose flag prev fb = true ↔ flag fb = true ∧ prev.map flag ≠ some true := by
  cases prev <;> simp [rose]

theorem warn_eq (a : AxisId) (fb : Feedback) (prev : Option Feedback) (s : State) :
    warn a fb prev s =
      if fb.driveWarning = true ∧ (prev.map fun y => y.driveWarning) ≠ some true then
        { s with
          log := logAfter s.logMode s.log
            { time := s.clock, code := .driveWarning, cls := .note, flyer := flyerOfAxis s a, axis := some a,
              station := none, port := none, detail := .none } }
      else s :=
  if_congr (rose_iff _ prev fb) rfl rfl

/-- The entry of a condition that rises on a FAULTED axis (R147). -/
def risenEntry (s : State) (a : AxisId) (e : FaultCode × Detail) : LogEntry :=
  { time := s.clock, code := e.1, cls := e.1.cls, flyer := flyerOfAxis s a, axis := some a, station := none,
    port := none, detail := e.2 }

/-- A state but for its log, to which the entries of conditions that rise are offered in order (R147). -/
def withRisen (a : AxisId) (es : List (FaultCode × Detail)) (s : State) : State :=
  { s with log := es.foldl (fun l e => logAfter s.logMode l (risenEntry s a e)) s.log }

theorem axisFault_withRisen (faulted : (s.axis a).state = .faulted) (es : List (FaultCode × Detail))
    (e : FaultCode × Detail) : axisFault e.1 e.2 a (withRisen a es s) = withRisen a (es ++ [e]) s := by
  refine (if_pos faulted).trans ?_
  unfold withRisen
  rw [List.foldl_append]
  rfl

theorem superviseFaulted_eq (faulted : (s.axis a).state = .faulted) :
    superviseFaulted a fb prev s =
      withRisen a
        ((if fb.driveFault = true ∧ (prev.map fun y => y.driveFault) ≠ some true then [(.driveFault, .none)] else []) ++
        (if fb.posValid = false ∧ (prev.map fun y => y.posValid) = some true then [(.positionLost, .none)] else []) ++
        (if overloaded (s.axis a).params fb.load = true ∧
            (prev.map fun y => overloaded (s.axis a).params y.load) ≠ some true then
          [(.overload, .number (fb.load : Nat))] else [])) s := by
  have step (c : Prop) [Decidable c] (es : List (FaultCode × Detail)) (e : FaultCode × Detail) :
      (if c then axisFault e.1 e.2 a (withRisen a es s) else withRisen a es s) =
        withRisen a (es ++ if c then [e] else []) s := by
    split
    · exact axisFault_withRisen faulted es e
    · rw [List.append_nil]
  have start : s = withRisen a [] s := rfl
  have first := step (fb.driveFault = true ∧ (prev.map fun y => y.driveFault) ≠ some true) [] (.driveFault, .none)
  rw [List.nil_append, ← start] at first
  unfold superviseFaulted
  dsimp only
  simp only [rose_iff]
  rw [first, step _ _ (.positionLost, .none), step _ _ (.overload, .number (fb.load : Nat))]
  refine congrArg (fun es => withRisen a ((_ ++ es) ++ _) s) (if_congr ?_ rfl rfl)
  cases prev <;> simp [and_comm]

/-- Settles O46: the tests of a sound axis in order, and each state's supervision. -/
theorem supervisionTestsInOrder : Obligations.SupervisionTestsInOrder := by
  unfold Obligations.SupervisionTestsInOrder
  refine ⟨fun a fb s => ?_, fun a fb prev s => ⟨fun unmapped => ?_, fun sound => ?_, fun faulted => ?_⟩⟩
  · dsimp only
    rw [← overloaded_eq, ← followingFails_eq, ← slackAfter_eq]
    refine ⟨fun broken => ?_, fun whole => ⟨fun referenced lost => ?_, fun known => ⟨fun heavy => ?_, fun light => ?_⟩⟩⟩
    · rw [superviseSound, firstFault_driveFault broken]
    · rw [superviseSound, firstFault_positionLost whole referenced lost]
    · rw [superviseSound, firstFault_overload whole known heavy]
    · have rest := firstFault_light whole known light
      unfold superviseSound
      dsimp only
      refine ⟨fun engaged => ⟨fun far => ?_, fun near loose => ?_, fun near tight => ?_⟩, fun unreferenced valid => ?_,
        fun unreferenced invalid => ?_, fun ready => ?_⟩
      · rw [rest, if_pos ⟨engaged, far⟩]
        rfl
      · rw [rest, if_neg (by simp [near])]
        dsimp only
        rw [if_pos engaged, if_pos loose]
      · rw [rest, if_neg (by simp [near])]
        dsimp only
        rw [if_pos engaged, if_neg (by omega)]
        rfl
      · rw [rest, if_neg (by simp [unreferenced])]
        dsimp only
        rw [if_neg (by simp [unreferenced]), if_pos ⟨unreferenced, valid⟩]
        rfl
      · rw [rest, if_neg (by simp [unreferenced])]
        dsimp only
        rw [if_neg (by simp [unreferenced]), if_neg (by simp [invalid])]
      · rw [rest, if_neg (by simp [ready])]
        dsimp only
        rw [if_neg (by simp [ready]), if_neg (by simp [ready])]
  · rw [supervise, unmapped]
  · dsimp only
    rw [← warn_eq]
    rcases sound with state | state | state <;> rw [supervise, state]
  · dsimp only
    rw [supervise, faulted]
    dsimp only
    rw [superviseFaulted_eq faulted, warn_eq]
    rfl

end Sys2Proof.Machine
end

section
/-! What is done to a flyer and its formation stays within it; and a feedback frame, with the readiness rule and the
completed releases (R35, R38, R45, R99, R140, R141). -/

namespace Sys2Proof.Machine

variable {s t u v w : State} {f g h l : FlyerId} {a : AxisId} {p : PortId} {fb fb0 fb1 : Feedback}

/-! ## Formations under a tame change (R43, R45) -/

theorem Tame.formation (tame : Tame s t) : t.formations = s.formations := by
  obtain ⟨_, _, _, rfl⟩ := tame.frame
  rfl

theorem Tame.leaderOf (tame : Tame s t) (f : FlyerId) : leaderOf t f = leaderOf s f := by
  obtain ⟨_, _, _, rfl⟩ := tame.frame
  rfl

theorem Tame.isFollower (tame : Tame s t) (f : FlyerId) : isFollower t f = isFollower s f := by
  obtain ⟨_, _, _, rfl⟩ := tame.frame
  rfl

theorem Tame.formationsSound (tame : Tame s t) (sound : FormationsSound s) : FormationsSound t := by
  obtain ⟨_, _, _, rfl⟩ := tame.frame
  exact sound

theorem Tame.port (tame : Tame s t) (p : PortId) : t.port p = s.port p := by
  obtain ⟨_, _, _, rfl⟩ := tame.frame
  rfl

theorem Gentle.brakesReleased (gentle : Gentle s t) (f : FlyerId) : brakesReleased t f = brakesReleased s f := by
  have feedback (a : AxisId) : (t.axis a).feedback = (s.axis a).feedback := (gentle.axes a).feedback
  simp only [Machine.brakesReleased, gentle.tame.concernedFlyers, gentle.membersOf, feedback]

/-! ## Changes within one formation (R45) -/

/-- A tame change that leaves every flyer led by another than `l`. -/
structure Within (l : FlyerId) (s t : State) : Prop where
  tame : Tame s t
  others : ∀ h, leaderOf s h ≠ l → t.flyer h = s.flyer h

theorem Within.refl (l : FlyerId) (s : State) : Within l s s := ⟨Tame.refl s, fun _ _ => rfl⟩

theorem Within.trans (first : Within l s t) (second : Within l t u) : Within l s u :=
  ⟨first.tame.trans second.tame, fun h other =>
    (second.others h (by rwa [first.tame.leaderOf])).trans (first.others h other)⟩

theorem Within.ite {c : Prop} [Decidable c] (first : Within l s t) (second : Within l s u) :
    Within l s (if c then t else u) := by
  split <;> assumption

/-- A tame change that leaves every flyer. -/
theorem Within.of_flyers (tame : Tame s t) (same : ∀ h, t.flyer h = s.flyer h) : Within l s t := ⟨tame, fun h _ => same h⟩

theorem logCause_within (c : Cause) (cls : FaultClass) (o : Option FlyerId) (s : State) : Within l s (logCause c cls o s) :=
  .of_flyers (logCause_tame c cls o s) fun _ => rfl

theorem modFlyer_within {k : Flyer → Flyer} (defn : ∀ x, (k x).defn = x.defn) (leads : leaderOf s g = l) :
    Within l s (modFlyer g k s) :=
  ⟨modFlyer_tame g k defn s, fun h other => by
    rw [flyer_modFlyer_eq, if_neg fun (same : h = g) => other (by rw [same]; exact leads)]⟩

theorem modRun_within {k : Run → Run} (leads : leaderOf s g = l) : Within l s (modRun g k s) :=
  modFlyer_within (by intro _; rfl) leads

/-- A sequence of changes, each within the formation. -/
theorem Within.forEach {α : Type} {op : α → State → State} {xs : List α}
    (each : ∀ x ∈ xs, ∀ t, Tame s t → Within l t (op x t)) : Within l s (forEach xs op s) := by
  have all (ys : List α) (sub : ∀ y ∈ ys, y ∈ xs) (t : State) (tame : Tame s t) : Within l t (Machine.forEach ys op t) := by
    induction ys generalizing t with
    | nil => exact Within.refl l t
    | cons y ys ih =>
      have head := each y (sub y List.mem_cons_self) t tame
      exact head.trans (ih (fun z mem => sub z (List.mem_cons_of_mem y mem)) _ (tame.trans head.tame))
  exact all xs (fun _ mem => mem) s (Tame.refl s)

/-- Each flyer concerned is led as the flyer is (R45). -/
theorem leaderOf_of_concerned (sound : FormationsSound s) (mem : g ∈ concernedFlyers s f) : leaderOf s g = leaderOf s f :=
  (mem_concernedFlyers_iff sound).mp mem

/-- A sequence of changes of flyer records of the flyers concerned. -/
theorem forEach_concerned_within {α : Type} {op : α → State → State} {key : α → FlyerId} {xs : List α}
    (sound : FormationsSound s) (leads : leaderOf s f = l) (concerned : ∀ x ∈ xs, key x ∈ concernedFlyers s f)
    (each : ∀ x t, leaderOf t (key x) = l → Within l t (op x t)) : Within l s (forEach xs op s) :=
  Within.forEach fun x mem t tame => each x t (by
    rw [tame.leaderOf, leaderOf_of_concerned sound (concerned x mem), leads])

theorem setStates_within (sound : FormationsSound s) (leads : leaderOf s f = l) (st : FlyerState) :
    Within l s (setStates (concernedFlyers s f) st s) :=
  forEach_concerned_within (key := id) sound leads (fun _ mem => mem) fun _ _ leads => modFlyer_within (by intro _; rfl) leads

theorem disengage_within (g : FlyerId) (s : State) : Within l s (disengage g s) :=
  .of_flyers (disengage_tame g s) (flyer_disengage g · s)

theorem leaveRun_within (sound : FormationsSound s) (leads : leaderOf s f = l) (st : FlyerState) :
    Within l s (leaveRun f st s) :=
  forEach_concerned_within (key := id) sound leads (fun _ mem => mem) fun g _ leads =>
    (modFlyer_within (by intro _; rfl) leads).trans (disengage_within g _)

theorem hitFlyer_within {via : Bool} {cls : FaultClass} {clears : Bool} {c : Cause} (leads : leaderOf s g = l) :
    Within l s (hitFlyer via cls clears c g s) :=
  ⟨(hitFlyer_gentle via cls clears c g s).tame, fun h other => by
    rw [flyer_hitFlyer, if_neg fun (same : h = g) => other (by rw [same]; exact leads)]⟩

theorem strike_within {via : Bool} {cls : FaultClass} {clears : Bool} {e : FlyerId × Cause} (leads : leaderOf s e.1 = l) :
    Within l s (strike via cls clears e s) :=
  (logCause_within e.2 cls (some e.1) s).trans
    (hitFlyer_within ((logCause_tame e.2 cls (some e.1) s).leaderOf e.1 ▸ leads))

theorem takeFault_within {via : Bool} {cls : FaultClass} {c : Cause} (sound : FormationsSound s)
    (leads : leaderOf s g = l) : Within l s (takeFault via cls c g s) := by
  rw [takeFault_eq]
  refine forEach_concerned_within (key := Prod.fst) sound leads (fun e mem => ?_) fun e t leads => strike_within leads
  have named : e.1 ∈ (strikes cls c g s).map fun e => e.1 := List.mem_map_of_mem mem
  rw [map_fst_strikes, List.mem_cons, othersStruck] at named
  rcases named with same | other
  · exact same ▸ self_mem_concernedFlyers s g
  · split at other
    · exact (List.mem_filter.mp other).1
    · exact (List.not_mem_nil other).elim

theorem walked_within (sound : FormationsSound s) (leads : leaderOf s f = l) (out : Interpreted) :
    Within l s (walked f out s) := by
  have marks : Within l s (forEach (concernedFlyers s f) (fun g => modFlyer g (takeMarkRun out.lastMark out.marks)) s) :=
    forEach_concerned_within (key := id) sound leads (fun _ mem => mem) fun g _ leads => modFlyer_within (by intro _; rfl) leads
  exact marks.trans (modRun_within (by rw [marks.tame.leaderOf, leads]))

theorem setStates_modRun_within (sound : FormationsSound s) (leads : leaderOf s f = l) (k : Run → Run) (st : FlyerState) :
    Within l s (setStates (concernedFlyers s f) st (modRun f k s)) := by
  have run : Within l s (modRun f k s) := modRun_within leads
  rw [← run.tame.concernedFlyers]
  exact run.trans (setStates_within (run.tame.formationsSound sound) (by rw [run.tame.leaderOf, leads]) st)

theorem interpreterOutcome_within (sound : FormationsSound s) (leads : leaderOf s f = l) (q : Vec3) (stop : InterpreterEnd) :
    Within l s (interpreterOutcome f q stop s) := by
  cases stop with
  | move m c i => exact setStates_modRun_within sound leads _ _
  | wait => exact setStates_modRun_within sound leads _ _
  | runEnd => exact leaveRun_within sound leads .parked
  | unended => exact Within.refl l s

theorem runInterpreter_within (sound : FormationsSound s) (leads : leaderOf s f = l) : Within l s (runInterpreter f s) := by
  cases run : (s.flyer f).run with
  | none =>
    have still : runInterpreter f s = s := by simp only [runInterpreter, run]
    exact still.symm ▸ Within.refl l s
  | some r =>
    cases point : (s.flyer f).point with
    | none =>
      have still : runInterpreter f s = s := by simp only [runInterpreter, run, point]
      exact still.symm ▸ Within.refl l s
    | some q =>
      rw [runInterpreter_eq run point]
      have placed := walked_within sound leads (interpret s.dir Config.walkBound ⟨r.posCue, r.posRecord, r.stack⟩ none 0)
      exact placed.trans (interpreterOutcome_within (placed.tame.formationsSound sound)
        (by rw [placed.tame.leaderOf, leads]) q _)

theorem completeRelease_within (sound : FormationsSound s) (leads : leaderOf s f = l) : Within l s (completeRelease f s) := by
  unfold completeRelease
  dsimp only
  split
  · have moved := setStates_modRun_within sound leads (fun r => { r with pending := none, brake := 0, v := 0 }) (.cueRun .moving)
    exact moved.trans (runInterpreter_within (moved.tame.formationsSound sound) (by rw [moved.tame.leaderOf, leads]))
  · exact setStates_modRun_within sound leads _ _
  · exact Within.refl l s

/-! ## The readiness rule and the release test at a port (R35, R38, R99) -/

theorem readiness_flyersOnly (g : FlyerId) (s : State) : FlyersOnly s (readiness g s) := by
  rw [readiness_eq]
  exact modFlyer_flyersOnly g _ s

theorem flyer_readiness (g h : FlyerId) (s : State) :
    (readiness g s).flyer h =
      if h = g then { s.flyer g with state := readyState (membersReady s g) (s.flyer g).located (s.flyer g).state }
      else s.flyer h := by
  rw [readiness_eq, flyer_modFlyer_eq]

/-- The readiness rule on some flyers, each once: each by its own record and its members. -/
theorem flyer_forEach_readiness {gs : List FlyerId} (nodup : gs.Nodup) (s : State) (h : FlyerId) :
    (forEach gs readiness s).flyer h =
      if h ∈ gs then { s.flyer h with state := readyState (membersReady s h) (s.flyer h).located (s.flyer h).state }
      else s.flyer h := by
  induction gs generalizing s with
  | nil => rfl
  | cons g gs ih =>
    obtain ⟨once, nodup⟩ := List.nodup_cons.mp nodup
    have ready : membersReady (readiness g s) h = membersReady s h :=
      membersReady_congr ((readiness_gentle g s).membersOf h) fun a _ => (readiness_flyersOnly g s).axis a
    rw [forEach_cons, ih nodup, ready]
    by_cases here : h = g
    · subst here
      rw [if_neg once, flyer_readiness, if_pos rfl, if_pos List.mem_cons_self]
    · rw [flyer_readiness, if_neg here]
      exact if_congr (by simp [here]) rfl rfl

/-- The release test finds the release of a flyer complete (R38). -/
def releaseDue (w : State) (f : FlyerId) : Bool := decide ((w.flyer f).state = .releasing) && brakesReleased w f

theorem releaseDue_iff : releaseDue w f = true ↔ (w.flyer f).state = .releasing ∧ brakesReleased w f = true := by
  simp [releaseDue]

/-- The release test on flyers that are no followers, each once: the releases that are due in the first state complete,
as no completed release touches another formation (R38, R45). -/
theorem forEach_testRelease {fs : List FlyerId} (sound : FormationsSound w) (nodup : fs.Nodup)
    (lead : ∀ f ∈ fs, leaderOf w f = f) (same : ∀ f ∈ fs, (v.flyer f).state = (w.flyer f).state) (gentle : Gentle w v) :
    forEach fs testRelease v = forEach (fs.filter (releaseDue w)) completeRelease v := by
  induction fs generalizing v with
  | nil => rfl
  | cons f fs ih =>
    obtain ⟨once, nodup⟩ := List.nodup_cons.mp nodup
    have leads : leaderOf v f = f := (gentle.tame.leaderOf f).trans (lead f List.mem_cons_self)
    have rest (u : State) (kept : ∀ g ∈ fs, u.flyer g = v.flyer g) (next : Gentle v u) :=
      ih nodup (fun g mem => lead g (List.mem_cons_of_mem f mem))
        (fun g mem => by rw [kept g mem, same g (List.mem_cons_of_mem f mem)]) (gentle.trans next)
    have due : ((v.flyer f).state = .releasing ∧ brakesReleased v f = true) ↔
        releaseDue w f = true := by
      rw [releaseDue_iff, same f List.mem_cons_self, gentle.brakesReleased]
    by_cases now : (v.flyer f).state = .releasing ∧ brakesReleased v f = true
    · have others (g : FlyerId) (mem : g ∈ fs) : (completeRelease f v).flyer g = v.flyer g :=
        (completeRelease_within (gentle.tame.formationsSound sound) leads).others g fun led => once (by
          rw [gentle.tame.leaderOf, lead g (List.mem_cons_of_mem f mem)] at led
          rwa [← led])
      rw [forEach_cons, testRelease, if_pos now, List.filter_cons_of_pos (due.mp now), forEach_cons,
        rest _ others (completeRelease_gentle f v)]
    · rw [forEach_cons, testRelease, if_neg now, List.filter_cons_of_neg (mt due.mpr now),
        rest v (fun _ _ => rfl) (Gentle.refl v)]

/-- The last step of a valid arrival: the readiness rule on the flyers with a member on the port, and the completed
releases (R141). -/
theorem settlePort_eq (sound : FormationsSound v) :
    ∃ F, let w : State := { v with flyers := F }
      (∀ g, w.flyer g =
        if memberOn v p g = true then
          { v.flyer g with state := readyState (membersReady v g) (v.flyer g).located (v.flyer g).state }
        else v.flyer g) ∧
      settlePort p v = forEach (allFlyers.filter fun g =>
        !isFollower v g && (concernedFlyers v g).any (memberOn v p) && decide ((w.flyer g).state = .releasing) &&
          brakesReleased w g) completeRelease w := by
  have gentle : Gentle v (forEach (allFlyers.filter (memberOn v p)) readiness v) := Gentle.forEach readiness_gentle _ v
  have flyer := flyer_forEach_readiness (List.Nodup.filter (memberOn v p) nodup_allFlyers) v
  obtain ⟨F, shape⟩ := FlyersOnly.forEach readiness_flyersOnly (allFlyers.filter (memberOn v p)) v
  rw [shape] at gentle flyer
  refine ⟨F, fun g => ?_, ?_⟩
  · rw [flyer g]
    exact if_congr (by simp [mem_allFlyers]) rfl rfl
  · have on : memberOn ({ v with flyers := F } : State) p = memberOn v p :=
      funext fun g => by simp only [memberOn, gentle.membersOf]; rfl
    have lead (f : FlyerId) (mem : f ∈ allFlyers.filter fun f =>
        !isFollower v f && (concernedFlyers v f).any (memberOn v p)) :
        leaderOf ({ v with flyers := F } : State) f = f := by
      have kept := (List.mem_filter.mp mem).2
      simp only [Bool.and_eq_true, Bool.not_eq_true'] at kept
      exact (gentle.tame.leaderOf f).trans (isFollower_eq_false_iff.mp kept.1)
    simp only [settlePort, shape, on, gentle.tame.isFollower, gentle.tame.concernedFlyers]
    rw [forEach_testRelease (gentle.tame.formationsSound sound) (List.Nodup.filter _ nodup_allFlyers) lead
      (fun _ _ => rfl) (Gentle.refl _), List.filter_filter]
    congr 1
    exact List.filter_congr fun g _ => by simp only [releaseDue, Bool.and_comm, Bool.and_left_comm]

/-! ## A feedback frame (R140, R141) -/

theorem takeFeedback_shape (o : Option AxisId) (fb : Feedback) (s : State) :
    ∃ A, takeFeedback o fb s = { s with axes := A } := by
  cases o with
  | none => exact ⟨s.axes, rfl⟩
  | some a => exact ⟨_, rfl⟩

theorem axis_takeFeedback (o : Option AxisId) (fb : Feedback) (s : State) (b : AxisId) :
    (takeFeedback o fb s).axis b = { s.axis b with feedback := if o = some b then some fb else (s.axis b).feedback } := by
  cases o with
  | none => rfl
  | some a =>
    simp only [takeFeedback, axis_modAxis, Option.some.injEq]
    split <;> rfl

/-- The latest feedback of the axes of the slots, with the port answered (R141 steps 1 and 2). -/
theorem takeFeedbacks_eq (p : PortId) (fb0 fb1 : Feedback) (s : State) :
    ∃ A, let u : State := { s.setPort p (s.port p).answeredOne with axes := A }
      takeFeedback (s.port p).active.slot1 fb1 (takeFeedback (s.port p).active.slot0 fb0 (modPort p Port.answeredOne s)) = u ∧
      ∀ a, u.axis a =
        { s.axis a with feedback :=
            if (s.port p).active.slot1 = some a then some fb1 else if (s.port p).active.slot0 = some a then some fb0
            else (s.axis a).feedback } := by
  obtain ⟨A, first⟩ := takeFeedback_shape (s.port p).active.slot0 fb0 (modPort p Port.answeredOne s)
  obtain ⟨B, second⟩ := takeFeedback_shape (s.port p).active.slot1 fb1
    (takeFeedback (s.port p).active.slot0 fb0 (modPort p Port.answeredOne s))
  have shape := second.trans (by rw [first]; rfl :
    _ = ({ s.setPort p (s.port p).answeredOne with axes := B } : State))
  refine ⟨B, shape, fun a => ?_⟩
  have axis := axis_takeFeedback (s.port p).active.slot1 fb1
    (takeFeedback (s.port p).active.slot0 fb0 (modPort p Port.answeredOne s)) a
  rw [shape, axis_takeFeedback] at axis
  exact axis

theorem superviseSlots_gentle (p : PortId) (fb0 fb1 : Feedback) (s u : State) :
    Gentle u (superviseSlot (s.port p).active.slot1 fb1 s (superviseSlot (s.port p).active.slot0 fb0 s u)) :=
  (superviseSlot_gentle _ fb0 s u).trans (superviseSlot_gentle _ fb1 s _)

/-- A frame that is taken: the supervision of both slots, the readiness rule and the completed releases (R141). -/
theorem acceptFeedback_eq (p : PortId) (fb0 fb1 : Feedback) (s : State) (sound : FormationsSound s) :
    ∃ A F,
      let x := s.port p
      let u : State := { s.setPort p x.answeredOne with axes := A }
      let v := superviseSlot x.active.slot1 fb1 s (superviseSlot x.active.slot0 fb0 s u)
      let on (g : FlyerId) : Bool := (membersOf s g).any x.active.has
      let w : State := { v with flyers := F }
      (∀ a, u.axis a =
        { s.axis a with feedback :=
            if x.active.slot1 = some a then some fb1 else if x.active.slot0 = some a then some fb0
            else (s.axis a).feedback }) ∧
      (∀ g, w.flyer g =
        if on g = true then
          { v.flyer g with
            state := readyState ((membersOf s g).all fun a => decide ((v.axis a).state = .ready)) (v.flyer g).located
              (v.flyer g).state }
        else v.flyer g) ∧
      acceptFeedback p fb0 fb1 s = forEach (allFlyers.filter fun g =>
        !isFollower s g && (concernedFlyers s g).any on && decide ((w.flyer g).state = .releasing) &&
          brakesReleased w g) completeRelease w := by
  obtain ⟨A, answered, axis⟩ := takeFeedbacks_eq p fb0 fb1 s
  have gentle := superviseSlots_gentle p fb0 fb1 s { s.setPort p (s.port p).answeredOne with axes := A }
  have accepted : acceptFeedback p fb0 fb1 s = settlePort p (superviseSlot (s.port p).active.slot1 fb1 s
      (superviseSlot (s.port p).active.slot0 fb0 s { s.setPort p (s.port p).answeredOne with axes := A })) := by
    rw [← answered]
    rfl
  obtain ⟨F, flyer, settled⟩ := settlePort_eq (p := p) (gentle.tame.formationsSound sound)
  have members (g : FlyerId) : membersOf (superviseSlot (s.port p).active.slot1 fb1 s (superviseSlot
      (s.port p).active.slot0 fb0 s { s.setPort p (s.port p).answeredOne with axes := A })) g = membersOf s g :=
    gentle.membersOf g
  have active : ((superviseSlot (s.port p).active.slot1 fb1 s (superviseSlot
      (s.port p).active.slot0 fb0 s { s.setPort p (s.port p).answeredOne with axes := A })).port p).active =
      (s.port p).active := by
    rw [gentle.tame.port]
    have same : (s.setPort p (s.port p).answeredOne).port p = (s.port p).answeredOne := State.port_setPort_self s p _
    exact (congrArg Port.active same :)
  have on : memberOn (superviseSlot (s.port p).active.slot1 fb1 s (superviseSlot
      (s.port p).active.slot0 fb0 s { s.setPort p (s.port p).answeredOne with axes := A })) p =
      fun g => (membersOf s g).any (s.port p).active.has :=
    funext fun g => by simp only [memberOn, members, active]
  refine ⟨A, F, axis, fun g => ?_, ?_⟩
  · rw [flyer g, on]
    simp only [membersReady, members]
  · rw [accepted, settled, on]
    simp only [gentle.tame.isFollower, gentle.tame.concernedFlyers]
    rfl

theorem accepts_iff {x : Port} {echo : Nat} :
    x.accepts echo = true ↔ x.last.map BitVec.toNat = some echo ∧ x.answered = false := by
  simp [Port.accepts]

theorem exec_feedbackFrame (runs : running s = true) (p : PortId) (echo : Nat) (fb0 fb1 : Feedback) :
    exec (.feedbackFrame p echo fb0 fb1) s =
      .next (finish (if (s.port p).accepts echo then acceptFeedback p fb0 fb1 s else discardFeedback p s)) :=
  whileRunning_of_running runs fun t =>
    if (t.port p).accepts echo then acceptFeedback p fb0 fb1 t else discardFeedback p t

/-- Settles O45: the frame is taken in the four steps of R141, and a completed release touches its own formation
alone, so that each release is due by the state after the readiness rule. -/
theorem feedbackIsTakenOrDiscarded : Obligations.FeedbackIsTakenOrDiscarded := by
  unfold Obligations.FeedbackIsTakenOrDiscarded
  intro p echo fb0 fb1 s runs
  dsimp only
  have taken (fresh : (s.port p).last.map BitVec.toNat = some echo ∧ (s.port p).answered = false) :
      exec (.feedbackFrame p echo fb0 fb1) s = .next (finish (acceptFeedback p fb0 fb1 s)) :=
    (exec_feedbackFrame runs p echo fb0 fb1).trans (by rw [if_pos (accepts_iff.mpr fresh)])
  obtain ⟨A, answered, axis⟩ := takeFeedbacks_eq p fb0 fb1 s
  refine ⟨fun stale => ?_, fun fresh => ⟨_, taken fresh, ?_⟩, fun fresh sound => ?_⟩
  · exact (exec_feedbackFrame runs p echo fb0 fb1).trans (by rw [if_neg (mt accepts_iff.mp stale)]; rfl)
  · have gentle : Gentle _ (acceptFeedback p fb0 fb1 s) :=
      (superviseSlots_gentle p fb0 fb1 s _).trans (settlePort_gentle p _)
    rw [answered] at gentle
    obtain ⟨G, ended⟩ := finish_shape (acceptFeedback p fb0 fb1 s)
    rw [ended]
    have feedback (a : AxisId) := (gentle.axes a).feedback
    simp only [axis] at feedback
    have kept (a : AxisId) := gentle.axes a
    simp only [axis] at kept
    refine ⟨?_, fun g other => ?_, fun a slot => ?_, fun a slot free => ?_, fun a outside => ?_, fun a => ?_, ?_⟩
    · exact (gentle.tame.port p).trans (State.port_setPort_self _ p _)
    · exact (gentle.tame.port g).trans (State.port_setPort_ne _ p g _ other.symm)
    · exact (feedback a).trans (if_pos slot)
    · exact (feedback a).trans ((if_neg free).trans (if_pos slot))
    · have out : ¬((s.port p).active.slot0 = some a ∨ (s.port p).active.slot1 = some a) := by
        rw [← has_iff, outside]
        exact Bool.false_ne_true
      exact (feedback a).trans ((if_neg fun slot => out (.inr slot)).trans (if_neg fun slot => out (.inl slot)))
    · exact ⟨(kept a).current, (kept a).previous, (kept a).params⟩
    · obtain ⟨_, _, _, shape⟩ := gentle.tame.frame
      rw [shape]
      rfl
  · obtain ⟨A, F, axis, flyer, accepted⟩ := acceptFeedback_eq p fb0 fb1 s sound
    rw [taken fresh, accepted]
    exact ⟨A, F, axis, flyer, rfl⟩

end Sys2Proof.Machine
end

section
/-! What a drive port sends, and its swap stage (R24, R35, R138, R139, R151, R152, R203). -/

namespace Sys2Proof.Machine

variable {s t u : State} {f g : FlyerId} {a : AxisId} {p : PortId} {o n : Option AxisId}

/-! ## Compose, send and record (R138, R139, R203) -/

theorem setPointFrame_eq (seq : BitVec 8) (out0 out1 : Bool × Int) :
    setPointFrame seq out0 out1 =
      sealed16 (seq :: (((if out0.1 then 1 else 0) :: bytesOf 3 out0.2) ++ ((if out1.1 then 1 else 0) :: bytesOf 3 out1.2))) := by
  have flag (b : Bool) : bytesOf 1 (yesNo b) = [if b then 1 else 0] := by cases b <;> rfl
  simp only [setPointFrame, flag, List.cons_append, List.nil_append, List.append_assoc]

/-- What a slot sends, its latest counts taken as 0 where there are none. -/
def slotSent (s : State) : Option AxisId → Bool × Int
  | none => (false, 0)
  | some a =>
    if (s.axis a).state = .engaged then (true, (s.axis a).outgoing)
    else (false, ((s.axis a).feedback.map fun fb => fb.counts).getD 0)

theorem slotOutput_eq (s : State) (o : Option AxisId) : slotOutput s o = slotSent s o := by
  cases o with
  | none => rfl
  | some a => cases fb : (s.axis a).feedback <;> simp [slotOutput, slotSent, fb]

theorem recordSlot_shape (o : Option AxisId) (out : Bool × Int) (s : State) :
    ∃ A, recordSlot o out s = { s with axes := A } := by
  cases o with
  | none => exact ⟨s.axes, rfl⟩
  | some a => exact ⟨_, rfl⟩

theorem axis_recordSlot (o : Option AxisId) (out : Bool × Int) (s : State) (a : AxisId) :
    (recordSlot o out s).axis a = if o = some a then shiftHistory out.2 (s.axis a) else s.axis a := by
  cases o with
  | none => rfl
  | some b => simp only [recordSlot, axis_modAxis, Option.some.injEq]

/-- The frame that a port sends, by its active table (R138, R203). -/
def frameSent (s : State) (x : Port) : List Byte :=
  setPointFrame x.next (slotOutput s x.active.slot0) (slotOutput s x.active.slot1)

theorem sendSetPoints_shape (p : PortId) (s : State) :
    ∃ A, sendSetPoints p s = { s.setPort p ((s.port p).sentOne (frameSent s (s.port p))) with axes := A } := by
  obtain ⟨A, first⟩ := recordSlot_shape (s.port p).active.slot0 (slotOutput s (s.port p).active.slot0)
    (modPort p (Port.sentOne (frameSent s (s.port p))) s)
  obtain ⟨B, second⟩ := recordSlot_shape (s.port p).active.slot1 (slotOutput s (s.port p).active.slot1)
    (recordSlot (s.port p).active.slot0 (slotOutput s (s.port p).active.slot0)
      (modPort p (Port.sentOne (frameSent s (s.port p))) s))
  exact ⟨B, second.trans (by rw [first]; rfl)⟩

theorem doubled_eq_false_iff {x : Slots} : x.doubled = false ↔ ∀ a, x.slot0 = some a → x.slot1 ≠ some a := by
  cases h : x.slot0 <;> simp [Slots.doubled, h, eq_comm]

/-- Each axis of a table that is not doubled is recorded once (R139). -/
theorem axis_sendSetPoints (single : (s.port p).active.doubled = false) (a : AxisId) :
    (sendSetPoints p s).axis a =
      if (s.port p).active.slot0 = some a ∨ (s.port p).active.slot1 = some a then
        shiftHistory (slotOutput s (some a)).2 (s.axis a)
      else s.axis a := by
  have once := doubled_eq_false_iff.mp single a
  unfold sendSetPoints
  dsimp only
  rw [axis_recordSlot, axis_recordSlot]
  change (if (s.port p).active.slot1 = some a then shiftHistory _ (if (s.port p).active.slot0 = some a then
      shiftHistory _ (s.axis a) else s.axis a) else if (s.port p).active.slot0 = some a then
      shiftHistory _ (s.axis a) else s.axis a) = _
  by_cases zero : (s.port p).active.slot0 = some a
  · rw [if_neg (once zero), if_pos zero, if_pos (.inl zero), zero]
  · by_cases one : (s.port p).active.slot1 = some a
    · rw [if_pos one, if_neg zero, if_pos (.inr one), one]
    · rw [if_neg one, if_neg zero, if_neg (not_or.mpr ⟨zero, one⟩)]

/-! ## What a pending swap is dropped for (R151) -/

/-- The active entry of a slot is an ENGAGED axis. -/
def entryEngaged (s : State) (o : Option AxisId) : Bool := o.any fun a => decide ((s.axis a).state = .engaged)

/-- The staged entry of a slot stands in another port's active table. -/
def entryElsewhere (s : State) (p : PortId) (n : Option AxisId) : Bool :=
  n.any fun a => decide (∃ g, g ≠ p ∧ (s.port g).active.has a = true)

theorem otherPortOf_isSome_iff : (otherPortOf s p a).isSome = true ↔ ∃ g, g ≠ p ∧ (s.port g).active.has a = true := by
  rw [← Option.ne_none_iff_isSome, Ne, otherPortOf_eq_none_iff]
  simp

theorem slotDrop_of_engaged (differ : o ≠ n) (active : o = some a) (engaged : entryEngaged s o = true) :
    slotDrop s p o n = some (a, .engaged) := by
  subst active
  have held : (s.axis a).state = .engaged := of_decide_eq_true engaged
  simp only [slotDrop, if_neg differ, Option.bind_some, if_pos held]

theorem slotDrop_of_free (differ : o ≠ n) (free : entryEngaged s o = false) :
    slotDrop s p o n = n.bind fun a => (otherPortOf s p a).map fun _ => (a, .elsewhere) := by
  cases o with
  | none => simp only [slotDrop, if_neg differ, Option.bind_none]
  | some a =>
    have calm : ¬(s.axis a).state = .engaged := of_decide_eq_false free
    simp only [slotDrop, if_neg differ, Option.bind_some, if_neg calm]

theorem slotDrop_of_elsewhere (differ : o ≠ n) (free : entryEngaged s o = false) (staged : n = some a)
    (elsewhere : entryElsewhere s p n = true) : slotDrop s p o n = some (a, .elsewhere) := by
  subst staged
  obtain ⟨g, other⟩ := Option.isSome_iff_exists.mp (otherPortOf_isSome_iff.mpr (of_decide_eq_true elsewhere))
  rw [slotDrop_of_free differ free, Option.bind_some, other]
  rfl

theorem slotDrop_of_sound (sound : ¬(o ≠ n ∧ (entryEngaged s o = true ∨ entryElsewhere s p n = true))) :
    slotDrop s p o n = none := by
  by_cases differ : o = n
  · exact if_pos differ
  · obtain ⟨free, here⟩ : entryEngaged s o = false ∧ entryElsewhere s p n = false := by simpa [differ] using sound
    rw [slotDrop_of_free differ free]
    cases n with
    | none => rfl
    | some a =>
      have alone : otherPortOf s p a = none := by
        rw [← Option.not_isSome_iff_eq_none, otherPortOf_isSome_iff]
        exact of_decide_eq_false here
      rw [Option.bind_some, alone]
      rfl

/-! ## The swap applied (R24, R35, R152) -/

theorem mem_placedAxes {old new : Slots} :
    a ∈ placedAxes old new ↔
      (new.slot0 = some a ∧ old.slot0 ≠ some a) ∨ (new.slot1 = some a ∧ old.slot1 ≠ some a) := by
  have slot (o n : Option AxisId) : (a ∈ if o = n then [] else n.toList) ↔ n = some a ∧ o ≠ some a := by
    split
    · next same => simp [same]
    · next differ =>
      rw [Option.mem_toList]
      exact ⟨fun staged => ⟨staged, fun active => differ (active.trans staged.symm)⟩, fun both => both.1⟩
  rw [placedAxes, List.mem_append, slot, slot]

theorem mem_removedAxes {old new : Slots} : a ∈ removedAxes old new ↔ (old.has a && !new.has a) = true := by
  rw [removedAxes, List.mem_filter, Bool.and_eq_true, has_iff, Slots.axes, List.mem_append, Option.mem_toList,
    Option.mem_toList]

/-- The axes after a swap: those placed or moved, those removed, the others (R24, R152). -/
theorem axis_remapped (old new : Slots) (s : State) (a : AxisId) :
    (forEach (placedAxes old new) (fun b => modAxis b (remapAxis .unreferenced))
      (forEach (removedAxes old new) (fun b => modAxis b (remapAxis .unmapped)) s)).axis a =
      if a ∈ placedAxes old new then remapAxis .unreferenced (s.axis a)
      else if a ∈ removedAxes old new then remapAxis .unmapped (s.axis a)
      else s.axis a := by
  rw [axis_forEach_modAxis_idem (k := remapAxis .unreferenced) (fun _ => rfl),
    axis_forEach_modAxis_idem (k := remapAxis .unmapped) (fun _ => rfl)]
  by_cases gone : a ∈ removedAxes old new
  · simp only [if_pos gone, remapAxis]
  · simp only [if_neg gone]

/-- A swap that is applied: the port, the axes and the flyers (R24, R35, R151, R152). -/
theorem applySwap_eq (p : PortId) (s : State) :
    ∃ A F,
      let x := s.port p
      let t : State := { s.setPort p { x with active := x.shadow, swap := false } with axes := A, flyers := F }
      applySwap p s = t ∧
      (∀ a, t.axis a =
        if a ∈ placedAxes x.active x.shadow then remapAxis .unreferenced (s.axis a)
        else if a ∈ removedAxes x.active x.shadow then remapAxis .unmapped (s.axis a)
        else s.axis a) ∧
      ∀ f, t.flyer f =
        if f ∈ flyersWith s (removedAxes x.active x.shadow ++ placedAxes x.active x.shadow) then
          { s.flyer f with
            state := readyState ((membersOf s f).all fun a => decide ((t.axis a).state = .ready)) (s.flyer f).located
              (s.flyer f).state }
        else s.flyer f := by
  have axis := axis_remapped (s.port p).active (s.port p).shadow
    (modPort p (fun x => { x with active := x.shadow, swap := false }) s)
  obtain ⟨_, first⟩ := forEach_modAxis_frame (remapAxis .unmapped) (removedAxes (s.port p).active (s.port p).shadow)
    (modPort p (fun x => { x with active := x.shadow, swap := false }) s)
  obtain ⟨A, second⟩ := forEach_modAxis_frame (remapAxis .unreferenced) (placedAxes (s.port p).active (s.port p).shadow)
    (forEach (removedAxes (s.port p).active (s.port p).shadow) (fun b => modAxis b (remapAxis .unmapped))
      (modPort p (fun x => { x with active := x.shadow, swap := false }) s))
  have shape := second.trans (by rw [first]; rfl :
    _ = ({ s.setPort p { s.port p with active := (s.port p).shadow, swap := false } with axes := A } : State))
  rw [shape] at axis
  have nodup : (flyersWith s (removedAxes (s.port p).active (s.port p).shadow ++
      placedAxes (s.port p).active (s.port p).shadow)).Nodup := List.Nodup.filter _ nodup_allFlyers
  have flyer := flyer_forEach_readiness nodup
    { s.setPort p { s.port p with active := (s.port p).shadow, swap := false } with axes := A }
  obtain ⟨F, settled⟩ := FlyersOnly.forEach readiness_flyersOnly (flyersWith s
      (removedAxes (s.port p).active (s.port p).shadow ++ placedAxes (s.port p).active (s.port p).shadow))
    { s.setPort p { s.port p with active := (s.port p).shadow, swap := false } with axes := A }
  rw [settled] at flyer
  refine ⟨A, F, ?_, axis, flyer⟩
  rw [applySwap]
  dsimp only
  rw [shape, settled]

theorem mem_flyersWith {old new : Slots} {placed : AxisId → Bool} (names : ∀ a, placed a = true ↔ a ∈ placedAxes old new) :
    f ∈ flyersWith s (removedAxes old new ++ placedAxes old new) ↔
      ((membersOf s f).any fun a => placed a || (old.has a && !new.has a)) = true := by
  simp only [flyersWith, List.mem_filter, mem_allFlyers, true_and, List.any_eq_true, List.contains_iff_mem, List.mem_append,
    mem_removedAxes, Bool.or_eq_true, names, or_comm]

theorem takeSwap_of_dropped {e : AxisId × DropCause} (pending : (s.port p).swap = true) (drop : swapDrop s p = some e) :
    takeSwap p s = dropSwap p e s := by
  rw [takeSwap, if_pos pending, drop]

theorem takeSwap_of_sound (pending : (s.port p).swap = true) (sound : swapDrop s p = none) :
    takeSwap p s = applySwap p s := by
  rw [takeSwap, if_pos pending, sound]

theorem swapDrop_first {e : AxisId × DropCause}
    (first : slotDrop s p (s.port p).active.slot0 (s.port p).shadow.slot0 = some e) : swapDrop s p = some e := by
  rw [swapDrop, first]

theorem swapDrop_second (first : slotDrop s p (s.port p).active.slot0 (s.port p).shadow.slot0 = none) :
    swapDrop s p = slotDrop s p (s.port p).active.slot1 (s.port p).shadow.slot1 := by
  rw [swapDrop, first]

/-- Settles O44: the frame and the histories of an undoubled table, and the swap stage slot by slot. -/
theorem setPointsAreSentAndRecorded : Obligations.SetPointsAreSentAndRecorded := by
  unfold Obligations.SetPointsAreSentAndRecorded
  refine ⟨fun p s single => ?_, fun p s => ?_⟩
  · have axis := axis_sendSetPoints single
    obtain ⟨A, shape⟩ := sendSetPoints_shape p s
    have frame := setPointFrame_eq (s.port p).next (slotOutput s (s.port p).active.slot0)
      (slotOutput s (s.port p).active.slot1)
    simp only [slotOutput_eq] at axis frame
    rw [shape] at axis
    simp only [shape]
    refine ⟨rfl, fun g other => State.port_setPort_ne s p g _ other.symm, ?_, axis⟩
    refine (State.port_setPort_self s p _ :).trans ?_
    simp only [frameSent, slotOutput_eq, frame]
    rfl
  · refine ⟨fun calm => if_neg (by simp [calm]), fun pending => ⟨fun differ => ⟨fun a active engaged => ?_,
      fun a staged free elsewhere => ?_⟩, fun good differ => ⟨fun a active engaged => ?_,
      fun a staged free elsewhere => ?_⟩, fun good good' => ?_⟩⟩
    · exact takeSwap_of_dropped pending (swapDrop_first (slotDrop_of_engaged differ active engaged))
    · exact takeSwap_of_dropped pending (swapDrop_first (slotDrop_of_elsewhere differ free staged elsewhere))
    · exact takeSwap_of_dropped pending
        ((swapDrop_second (slotDrop_of_sound good)).trans (slotDrop_of_engaged differ active engaged))
    · exact takeSwap_of_dropped pending
        ((swapDrop_second (slotDrop_of_sound good)).trans (slotDrop_of_elsewhere differ free staged elsewhere))
    · have sound := (swapDrop_second (slotDrop_of_sound good)).trans (slotDrop_of_sound good')
      obtain ⟨A, F, shape, axis, flyer⟩ := applySwap_eq p s
      dsimp only
      rw [takeSwap_of_sound pending sound, shape]
      refine ⟨rfl, State.port_setPort_self s p _, fun g other => State.port_setPort_ne s p g _ other.symm,
        fun a => (axis a).trans ?_, fun f => (flyer f).trans ?_⟩
      · exact if_congr (mem_placedAxes.trans decide_eq_true_iff.symm) rfl (if_congr mem_removedAxes rfl rfl)
      · exact if_congr (mem_flyersWith fun a => decide_eq_true_iff.trans mem_placedAxes.symm) rfl rfl

end Sys2Proof.Machine
end

section
/-! The counts that run out: the third miss of a port, the brake release count, the dwell and the jog validity
(R27, R38, R99, R104, R127, R142). -/

namespace Sys2Proof.Machine

variable {s t u : State} {f g : FlyerId} {a b : AxisId} {p : PortId} {r : Run} {c : Cause}

/-! ## FEEDBACK_LOST (R27, R142) -/

/-- No axis becomes FAULTED. -/
def FaultsNone (s t : State) : Prop := ∀ a, (t.axis a).state = .faulted → (s.axis a).state = .faulted

theorem Releases.faultsNone {q : AxisId → Prop} (releases : Releases q s t) : FaultsNone s t := fun a faulted => by
  by_cases gone : q a
  · rw [(releases a).1 gone] at faulted
    unfold disengageAxis at faulted
    split at faulted
    · exact absurd faulted nofun
    · exact faulted
  · rwa [(releases a).2 gone] at faulted

theorem takeFault_faultsNone (via : Bool) (cls : FaultClass) (c : Cause) (f : FlyerId) (s : State) :
    FaultsNone s (takeFault via cls c f s) := by
  rw [takeFault_eq]
  exact forEach_rel FaultsNone (fun _ _ => id) (fun _ _ _ first second a => first a ∘ second a) _ _
    (fun e _ s => (strike_releases e).faultsNone) s

/-- The axis that a fault is found on is FAULTED after it, by this fault where it was not (R27, R147). -/
theorem axis_axisFault_self (code : FaultCode) (d : Detail) (a : AxisId) (s : State) :
    ((axisFault code d a s).axis a).state = .faulted ∧
      ((s.axis a).state ≠ .faulted → ((axisFault code d a s).axis a).cause = some code) := by
  obtain ⟨known, free, member⟩ := axisFaultsReachTheirFlyer code d a s
  by_cases faulted : (s.axis a).state = .faulted
  · rw [known faulted]
    exact ⟨faulted, fun sound => absurd faulted sound⟩
  · have same : (axisFault code d a s).axis a =
        { s.axis a with state := .faulted, cause := some code, slack := 0, committed := none } := by
      cases flyer : flyerOfAxis s a with
      | none =>
        rw [free faulted flyer]
        exact State.axis_setAxis_self s a _
      | some f => exact (member f faulted flyer).2.trans (State.axis_setAxis_self s a _)
    rw [same]
    exact ⟨rfl, fun _ => rfl⟩

/-- An axis fault on an axis that was sound, seen on any other axis: a stop of its flyer at most. -/
theorem axisFault_other (code : FaultCode) (d : Detail) (other : b ≠ a) (s : State) :
    (((axisFault code d a s).axis b).state = .faulted → (s.axis b).state = .faulted) ∧
      ((s.axis b).state ≠ .engaged → (axisFault code d a s).axis b = s.axis b) := by
  obtain ⟨known, free, member⟩ := axisFaultsReachTheirFlyer code d a s
  have stands (x : Axis) : (s.setAxis a x).axis b = s.axis b := State.axis_setAxis_ne s a b x (Ne.symm other)
  by_cases faulted : (s.axis a).state = .faulted
  · rw [known faulted]
    exact ⟨id, fun _ => rfl⟩
  · cases flyer : flyerOfAxis s a with
    | none =>
      rw [free faulted flyer]
      exact ⟨fun fault => stands _ ▸ fault, fun _ => stands _⟩
    | some f =>
      rw [(member f faulted flyer).1]
      exact ⟨fun fault => stands _ ▸ takeFault_faultsNone _ _ _ _ _ b fault,
        fun rest => (takeFault_spares _ _ _ _ _ b (by rwa [stands])).trans (stands _)⟩

/-- An axis that is FAULTED stands through any axis fault (R147). -/
theorem axis_axisFault_of_faulted (code : FaultCode) (d : Detail) (a : AxisId) (faulted : (s.axis b).state = .faulted) :
    (axisFault code d a s).axis b = s.axis b := by
  by_cases same : b = a
  · subst same
    rw [(axisFaultsReachTheirFlyer code d b s).1 faulted]
    rfl
  · exact (axisFault_other code d same s).2 (by rw [faulted]; exact nofun)

/-- FEEDBACK_LOST on the axis of a slot, where it holds one (R142). -/
def loseSlot (p : PortId) (o : Option AxisId) (s : State) : State :=
  match o with
  | some a => axisFault .feedbackLost (.number (p.val : Nat)) a s
  | none => s

theorem loseSlot_self (p : PortId) (s : State) (a : AxisId) :
    ((loseSlot p (some a) s).axis a).state = .faulted ∧
      ((s.axis a).state ≠ .faulted → ((loseSlot p (some a) s).axis a).cause = some .feedbackLost) :=
  axis_axisFault_self _ _ a s

theorem loseSlot_other {o : Option AxisId} (other : o ≠ some b) (s : State) :
    (((loseSlot p o s).axis b).state = .faulted → (s.axis b).state = .faulted) ∧
      ((s.axis b).state ≠ .engaged → (loseSlot p o s).axis b = s.axis b) := by
  cases o with
  | none => exact ⟨id, fun _ => rfl⟩
  | some a => exact axisFault_other _ _ (fun same => other (congrArg some same.symm)) s

theorem loseSlot_of_faulted (o : Option AxisId) (faulted : (s.axis b).state = .faulted) :
    (loseSlot p o s).axis b = s.axis b := by
  cases o with
  | none => rfl
  | some a => exact axis_axisFault_of_faulted _ _ a faulted

theorem feedbackLostFaults_eq (p : PortId) (s : State) :
    feedbackLostFaults p s = loseSlot p (s.port p).active.slot1 (loseSlot p (s.port p).active.slot0 s) := by
  unfold feedbackLostFaults Slots.axes
  cases (s.port p).active.slot0 <;> cases (s.port p).active.slot1 <;> rfl

/-- Both axes of a port's slots are FAULTED by FEEDBACK_LOST, and no other but an ENGAGED axis is touched (R142). -/
theorem axis_loseSlots (x : Slots) (s : State) :
    let t := loseSlot p x.slot1 (loseSlot p x.slot0 s)
    (∀ a, x.has a = true → (t.axis a).state = .faulted ∧
      ((s.axis a).state ≠ .faulted → (t.axis a).cause = some .feedbackLost)) ∧
    ∀ a, x.has a = false → (s.axis a).state ≠ .engaged → t.axis a = s.axis a := by
  refine ⟨fun a named => ?_, fun a outside free => ?_⟩
  · by_cases zero : x.slot0 = some a
    · rw [zero]
      obtain ⟨faulted, cause⟩ := loseSlot_self p s a
      rw [loseSlot_of_faulted x.slot1 faulted]
      exact ⟨faulted, cause⟩
    · have one : x.slot1 = some a := (has_iff.mp named).resolve_left zero
      rw [one]
      obtain ⟨faulted, cause⟩ := loseSlot_self p (loseSlot p x.slot0 s) a
      exact ⟨faulted, fun sound => cause fun fault => sound ((loseSlot_other zero s).1 fault)⟩
  · have out : ¬(x.slot0 = some a ∨ x.slot1 = some a) := by rw [← has_iff, outside]; exact Bool.false_ne_true
    obtain ⟨zero, one⟩ := not_or.mp out
    have first := (loseSlot_other (p := p) zero s).2 free
    exact ((loseSlot_other one _).2 (by rwa [first])).trans first

theorem loseSlot_tame (p : PortId) (o : Option AxisId) (s : State) : Tame s (loseSlot p o s) := by
  cases o with
  | none => exact Tame.refl s
  | some a => exact axisFault_tame _ _ a s

theorem unanswered_iff {x : Port} : x.unanswered = true ↔ x.last.isSome = true ∧ x.answered = false := by
  simp [Port.unanswered]

/-- The third miss of a port (R142). -/
theorem takeMiss_third (third : (s.port p).miss = 2) :
    takeMiss p s = loseSlot p (s.port p).active.slot1 (loseSlot p (s.port p).active.slot0
      (s.setPort p { s.port p with miss := 3, missed := (s.port p).missed + 1 })) := by
  have counted : (s.port p).missedOne = { s.port p with miss := 3, missed := (s.port p).missed + 1 } := by
    rw [Port.missedOne, third]
    rfl
  have port : ((s.setPort p (s.port p).missedOne).port p).active = (s.port p).active :=
    (congrArg Port.active (State.port_setPort_self s p (s.port p).missedOne) :)
  rw [takeMiss, if_pos third, feedbackLostFaults_eq, modPort, port, counted]

theorem exec_feedbackLost (runs : running s = true) (p : PortId) :
    exec (.feedbackLost p) s =
      .next (finish (if (s.port p).unanswered && decide ((s.port p).miss = 2) then takeMiss p s else s)) :=
  whileRunning_of_running runs fun t =>
    if (t.port p).unanswered && decide ((t.port p).miss = 2) then takeMiss p t else t

theorem thirdMiss_iff {x : Port} :
    (x.unanswered && decide (x.miss = 2)) = true ↔ x.last.isSome = true ∧ x.answered = false ∧ x.miss = 2 := by
  rw [Bool.and_eq_true, unanswered_iff, decide_eq_true_iff, and_assoc]

/-! ## BRAKE_TIMEOUT (R38, R99) -/

/-- The brake of an axis is reported released. -/
def brakeOff (s : State) (a : AxisId) : Prop := ∃ fb, (s.axis a).feedback = some fb ∧ fb.brakeReleased = true

/-- The brake of an axis is not reported released, as the test of a flyer's members finds it (R38). -/
def brakeHeld (s : State) (a : AxisId) : Bool :=
  match (s.axis a).feedback with
  | some fb => !fb.brakeReleased
  | none => true

theorem brakeHeld_eq_false_iff : brakeHeld s a = false ↔ brakeOff s a := by
  cases fb : (s.axis a).feedback <;> simp [brakeHeld, brakeOff, fb]

theorem firstBraked_cons (s : State) (f : FlyerId) (fs : List FlyerId) :
    firstBraked s (f :: fs) =
      match (membersOf s f).find? (brakeHeld s) with
      | some a => some (f, a)
      | none => firstBraked s fs := rfl

theorem find?_brakeHeld_eq_none (off : ∀ a ∈ membersOf s f, brakeOff s a) : (membersOf s f).find? (brakeHeld s) = none :=
  List.find?_eq_none.mpr fun a mem => by simp [brakeHeld_eq_false_iff.mpr (off a mem)]

/-- The members of some flyers are all released: the search goes on behind them. -/
theorem firstBraked_append {fs gs : List FlyerId} (off : ∀ h ∈ fs, ∀ a ∈ membersOf s h, brakeOff s a) :
    firstBraked s (fs ++ gs) = firstBraked s gs := by
  induction fs with
  | nil => rfl
  | cons f fs ih =>
    rw [List.cons_append, firstBraked_cons, find?_brakeHeld_eq_none (off f List.mem_cons_self)]
    exact ih fun h mem => off h (List.mem_cons_of_mem f mem)

theorem firstBraked_eq_none {fs : List FlyerId} (off : ∀ h ∈ fs, ∀ a ∈ membersOf s h, brakeOff s a) :
    firstBraked s fs = none := by
  rw [← List.append_nil fs, firstBraked_append off]
  rfl

/-- The first member whose brake holds, in formation order and member order (R38). -/
theorem firstBraked_eq_some {fs gs : List FlyerId} {as bs : List AxisId} (off : ∀ h ∈ fs, ∀ a ∈ membersOf s h, brakeOff s a)
    (members : membersOf s g = as ++ a :: bs) (before : ∀ b ∈ as, brakeOff s b) (held : ¬brakeOff s a) :
    firstBraked s (fs ++ g :: gs) = some (g, a) := by
  have first : (membersOf s g).find? (brakeHeld s) = some a := by
    rw [members, List.find?_append, List.find?_eq_none.mpr fun b mem => by simp [brakeHeld_eq_false_iff.mpr (before b mem)]]
    rw [Option.none_or, List.find?_cons_of_pos]
    exact Bool.eq_true_of_not_eq_false (mt brakeHeld_eq_false_iff.mp held)
  rw [firstBraked_append off, firstBraked_cons, first]

/-- A flyer with its run context as given. -/
def withRun (f : FlyerId) (r : Run) (s : State) : State := s.setFlyer f { s.flyer f with run := some r }

theorem flyer_withRun (f : FlyerId) (r : Run) (s : State) : (withRun f r s).flyer f = { s.flyer f with run := some r } :=
  State.flyer_setFlyer_self s f _

theorem setFlyer_withRun (f : FlyerId) (r : Run) (x : Flyer) (s : State) : (withRun f r s).setFlyer f x = s.setFlyer f x :=
  setFlyer_setFlyer ..

theorem membersOf_withRun (f : FlyerId) (r : Run) (g : FlyerId) : membersOf (withRun f r s) g = membersOf s g :=
  membersOf_of_defn ((modFlyer_tame f (fun x => { x with run := some r }) (by intro _; rfl) s).defn g)

theorem limitsOf_withRun (f : FlyerId) (r : Run) (g : FlyerId) : limitsOf (withRun f r s) g = limitsOf s g :=
  (modFlyer_tame f (fun x => { x with run := some r }) (by intro _; rfl) s).limitsOf g

theorem modRun_of_run (k : Run → Run) (run : (s.flyer f).run = some r) : modRun f k s = withRun f (k r) s := by
  rw [modRun, modFlyer, run]
  rfl

theorem exec_brakeTimeout_due (runs : running s = true) (releasing : (s.flyer f).state = .releasing)
    (run : (s.flyer f).run = some r) (due : r.brake ≤ 1) :
    exec (.brakeTimeout f) s =
      .next (finish (brakeTimeoutOn f (withRun f { r with brake := r.brake - 1 } s))) := by
  change execBrakeTimeout f s = _
  unfold execBrakeTimeout
  rw [whileRunning_of_running runs]
  simp only [releasing, run, if_pos due, countBrake, modRun_of_run _ run]

theorem exec_brakeTimeout_undue (runs : running s = true)
    (undue : ¬((s.flyer f).state = .releasing ∧ ∃ r, (s.flyer f).run = some r ∧ r.brake ≤ 1)) :
    exec (.brakeTimeout f) s = .next (finish s) := by
  change execBrakeTimeout f s = _
  unfold execBrakeTimeout
  rw [whileRunning_of_running runs]
  split
  · next r releasing run => rw [if_neg fun due => undue ⟨releasing, r, run, due⟩]
  · rfl

theorem exec_dwellEnd_due (runs : running s = true) (dwelling : (s.flyer f).state = .cueRun .dwelling)
    (run : (s.flyer f).run = some r) (due : r.dwell ≤ 1) :
    exec (.dwellEnd f) s =
      .next (finish (runInterpreter f (withRun f { r with dwell := r.dwell - 1 } s))) := by
  change execDwellEnd f s = _
  unfold execDwellEnd
  rw [whileRunning_of_running runs]
  simp only [dwelling, run, if_pos due, countDwell, modRun_of_run _ run]

theorem exec_dwellEnd_undue (runs : running s = true)
    (undue : ¬((s.flyer f).state = .cueRun .dwelling ∧ ∃ r, (s.flyer f).run = some r ∧ r.dwell ≤ 1)) :
    exec (.dwellEnd f) s = .next (finish s) := by
  change execDwellEnd f s = _
  unfold execDwellEnd
  rw [whileRunning_of_running runs]
  split
  · next r dwelling run => rw [if_neg fun due => undue ⟨dwelling, r, run, due⟩]
  · rfl

theorem exec_jogValidityExpiry_due (runs : running s = true)
    (state : (s.flyer f).state = .releasing ∨ (s.flyer f).state = .jogging) (run : (s.flyer f).run = some r)
    (due : r.jogValid = 1) :
    exec (.jogValidityExpiry f) s =
      .next (finish (withRun f { r with jogValid := 0, jogReq := Vec3.zero } s)) := by
  have aged : r.aged = { r with jogValid := 0, jogReq := Vec3.zero } := by rw [Run.aged, due]
  change execJogValidityExpiry f s = _
  unfold execJogValidityExpiry
  rw [whileRunning_of_running runs]
  rcases state with state | state <;> simp only [state, run, if_pos due, ageJog, modRun_of_run _ run, aged]

theorem exec_jogValidityExpiry_undue (runs : running s = true)
    (undue : ∀ r, ¬(((s.flyer f).state = .releasing ∨ (s.flyer f).state = .jogging) ∧ (s.flyer f).run = some r ∧
      r.jogValid = 1)) :
    exec (.jogValidityExpiry f) s = .next (finish s) := by
  change execJogValidityExpiry f s = _
  unfold execJogValidityExpiry
  rw [whileRunning_of_running runs]
  split
  · next r state run => rw [if_neg fun due => undue r ⟨.inl state, run, due⟩]
  · next r state run => rw [if_neg fun due => undue r ⟨.inr state, run, due⟩]
  · rfl

/-- A fault on a flyer that no formation names strikes it alone (R45). -/
theorem takeFault_alone (alone : Alone s f) (via : Bool) (cls : FaultClass) (c : Cause) :
    takeFault via cls c f s = strike via cls c.code.clearsLocated (f, c) s := by
  have itself : othersStruck cls f s = [] := by
    rw [othersStruck, concernedFlyers_of_alone alone]
    split <;> simp
  rw [takeFault_eq, strikes, itself]
  rfl

/-- A fault of class FLYER_STOP on a lone flyer in RELEASING: FAULTED, with its members out of ENGAGED (R159). -/
theorem takeFault_releasing_alone (alone : Alone s f) (releasing : (s.flyer f).state = .releasing)
    (keeps : c.code.clearsLocated = false) :
    ∃ A,
      let v : State := { s.setFlyer f { s.flyer f with
          state := .faulted
          run := none
          cause := (s.flyer f).cause.or (some c)
          point := if (s.flyer f).located then (s.flyer f).point else none } with
        axes := A
        log := logAfter s.logMode s.log (strikeEntry .flyerStop s.clock (f, c)) }
      takeFault false .flyerStop c f s = v ∧
      ∀ b, v.axis b =
        if b ∈ membersOf s f ∧ (s.axis b).state = .engaged then { s.axis b with state := .ready, committed := none }
        else s.axis b := by
  have flyer := flyer_strike (s := s) (via := false) (cls := .flyerStop) (clears := false) (f, c)
  have log := log_strike (s := s) (via := false) (cls := .flyerStop) (clears := false) (f, c)
  have released := strike_releases (s := s) (via := false) (cls := .flyerStop) (clears := false) (f, c)
  obtain ⟨A, F, L, shape⟩ := strike_faultOnly (via := false) (cls := .flyerStop) (clears := false) (f, c) s
  rw [takeFault_alone alone, keeps, shape]
  rw [shape] at flyer log released
  have flyers : F = (s.setFlyer f { s.flyer f with
      state := .faulted
      run := none
      cause := (s.flyer f).cause.or (some c)
      point := if (s.flyer f).located then (s.flyer f).point else none }).flyers := by
    refine Vector.ext fun i hi => (flyer ⟨i, hi⟩).trans ?_
    change _ = (s.setFlyer f _).flyer ⟨i, hi⟩
    rw [State.flyer_setFlyer]
    by_cases here : (⟨i, hi⟩ : FlyerId) = f
    · rw [if_pos here, if_pos here.symm, struck, releasing]
      rfl
    · rw [if_neg here, if_neg (Ne.symm here)]
  refine ⟨A, by rw [flyers, ← log]; rfl, fun b => ?_⟩
  have all := released.congr fun b =>
    show _ ↔ b ∈ membersOf s f from and_iff_left (by rw [releasing]; rfl)
  exact (all.axis b).trans (if_congr and_comm rfl rfl)

/-- BRAKE_TIMEOUT on the first member whose brake holds (R38, R99). -/
theorem brakeTimeoutOn_held {fs gs : List FlyerId} {as bs : List AxisId}
    (formation : concernedFlyers s f = fs ++ g :: gs) (off : ∀ h ∈ fs, ∀ a ∈ membersOf s h, brakeOff s a)
    (members : membersOf s g = as ++ a :: bs) (before : ∀ b ∈ as, brakeOff s b) (held : ¬brakeOff s a) :
    brakeTimeoutOn f s =
      takeFault false .flyerStop { code := .brakeTimeout, axis := some a, station := none, detail := .none } g s := by
  rw [brakeTimeoutOn, formation, firstBraked_eq_some off members before held]

theorem brakeTimeoutOn_off (off : ∀ h ∈ concernedFlyers s f, ∀ a ∈ membersOf s h, brakeOff s a) : brakeTimeoutOn f s = s := by
  rw [brakeTimeoutOn, firstBraked_eq_none off]

/-- Settles O47: each count by itself, and what it starts when it runs out. -/
theorem countsThatRunOutAct : Obligations.CountsThatRunOutAct := by
  unfold Obligations.CountsThatRunOutAct
  intro s runs
  refine ⟨fun p => ⟨fun undue => ?_, fun due => ⟨_, (exec_feedbackLost runs p).trans (by rw [if_pos (thirdMiss_iff.mpr due)]), ?_⟩⟩,
    fun p => ⟨fun sent waiting third => ?_, ?_⟩, fun f undue => exec_brakeTimeout_undue runs undue, ?_, ?_,
    fun f r dwelling run due => exec_dwellEnd_due runs dwelling run due, fun f undue => exec_dwellEnd_undue runs undue, ?_,
    fun f => ⟨fun undue => exec_jogValidityExpiry_undue runs undue,
      fun r ⟨state, run, due⟩ => exec_jogValidityExpiry_due runs state run due⟩⟩
  · exact (exec_feedbackLost runs p).trans (by rw [if_neg (mt thirdMiss_iff.mp undue)])
  · obtain ⟨G, ended⟩ := finish_shape (takeMiss p s)
    obtain ⟨faulted, spared⟩ := axis_loseSlots (p := p) (s.port p).active
      (s.setPort p { s.port p with miss := 3, missed := (s.port p).missed + 1 })
    have tame := (loseSlot_tame p (s.port p).active.slot0
      (s.setPort p { s.port p with miss := 3, missed := (s.port p).missed + 1 })).trans
        (loseSlot_tame p (s.port p).active.slot1 _)
    rw [ended, takeMiss_third due.2.2]
    exact ⟨(tame.port p).trans (State.port_setPort_self s p _),
      fun g other => (tame.port g).trans (State.port_setPort_ne s p g _ other.symm), faulted, spared⟩
  · refine (exec_feedbackLost runs p).trans ?_
    rw [if_pos (thirdMiss_iff.mpr ⟨sent, waiting, third⟩), takeMiss_third third]
    rfl
  · rw [accountMiss]
    by_cases lost : (s.port p).unanswered = true
    · rw [if_pos lost, if_pos (unanswered_iff.mp lost)]
      by_cases third : (s.port p).miss = 2
      · rw [takeMiss_third third, if_pos third]
        rfl
      · rw [takeMiss, if_neg third, if_neg third]
        rfl
    · rw [if_neg lost, if_neg (mt unanswered_iff.mpr lost)]
  · intro f r before a after releasing run due alone members off held
    have alone' : Alone (withRun f { r with brake := r.brake - 1 } s) f := alone
    have fired := exec_brakeTimeout_due runs releasing run due
    rw [brakeTimeoutOn_held (fs := []) (gs := []) (concernedFlyers_of_alone alone') (by simp)
      ((membersOf_withRun f _ f).trans members) off (fun ⟨fb, feedback, free⟩ => by simp [held fb feedback] at free)] at fired
    obtain ⟨A, shape, axes⟩ := takeFault_releasing_alone alone'
      (c := { code := .brakeTimeout, axis := some a, station := none, detail := .none })
      (by rw [flyer_withRun]; exact releasing) rfl
    rw [setFlyer_withRun, flyer_withRun] at shape
    exact ⟨A, shape ▸ fired, membersOf_withRun (s := s) f _ f ▸ axes⟩
  · intro f r releasing run due
    have fired := exec_brakeTimeout_due runs releasing run due
    have members (g : FlyerId) := membersOf_withRun (s := s) f { r with brake := r.brake - 1 } g
    refine ⟨fun off => ?_, fun fs g gs as a bs formation off split before held => ?_⟩
    · rw [brakeTimeoutOn_off (s := withRun f { r with brake := r.brake - 1 } s) fun h mem a member => off h mem a (by rwa [members] at member)] at fired
      exact fired
    · rw [brakeTimeoutOn_held (s := withRun f { r with brake := r.brake - 1 } s) formation
        (fun h mem a member => off h mem a (by rwa [members] at member)) ((members g).trans split) before held] at fired
      exact fired
  · intro f r p dwelling run due point alone
    have alone' : Alone (withRun f { r with dwell := r.dwell - 1 } s) f := alone
    have fired := exec_dwellEnd_due runs dwelling run due
    have out : r.dwell - 1 = 0 := by omega
    obtain ⟨moves, pauses, ends⟩ := runInterpreter_alone alone' (p := p) (by rw [flyer_withRun])
      (by rw [flyer_withRun]; exact point)
    simp only [setFlyer_withRun, flyer_withRun, membersOf_withRun, limitsOf_withRun, out] at moves pauses ends fired
    refine ⟨fun m c i stop => ?_, fun stop => ?_, fun stop => ?_⟩
    · rw [moves m c i stop] at fired
      exact fired
    · rw [pauses stop] at fired
      exact fired
    · obtain ⟨A, shape, axes⟩ := ends stop
      exact ⟨A, shape ▸ fired, axes⟩

end Sys2Proof.Machine
end

section
/-! The frame advance stays within a formation, so that the flyers advance each by its own formation's state (R108,
R118). -/

namespace Sys2Proof.Machine

variable {s t u v before : State} {f g h l : FlyerId} {r : Run}

/-! ## The frame advance stays within a formation (R108 to R135) -/

theorem endStop_within (sound : FormationsSound s) (leads : leaderOf s f = l) (why : StopReason) :
    Within l s (endStop f why s) := by
  cases why <;> exact leaveRun_within sound leads _

theorem mem_concernedFlyers_of_concerned {e : FlyerId × Vec3} (mem : e ∈ concerned s f) : e.1 ∈ concernedFlyers s f :=
  List.mem_map_of_mem mem

theorem mem_concernedFlyers_of_memberPoints {e : FlyerId × Vec3} {p : Vec3} (mem : e ∈ memberPoints (concerned s f) p) :
    e.1 ∈ concernedFlyers s f := by
  obtain ⟨x, member, rfl⟩ := List.mem_map.mp mem
  exact mem_concernedFlyers_of_concerned (e := x) member

theorem commitPoints_within (sound : FormationsSound s) (leads : leaderOf s f = l) (p : Vec3) (governed atLimit : Bool) :
    Within l s (commitPoints (memberPoints (concerned s f) p) governed atLimit s) := by
  have lengths : Within l s (forEach (allLengths s (memberPoints (concerned s f) p))
      (fun x => modAxis x.1 (commitAxis x.2.1 x.2.2)) s) :=
    Within.forEach fun x _ t _ => .of_flyers (modAxis_tame x.1 _ t) fun _ => rfl
  refine lengths.trans (forEach_concerned_within (key := Prod.fst) (f := f) (lengths.tame.formationsSound sound)
    (by rw [lengths.tame.leaderOf, leads]) (fun e mem => ?_) fun e t leads => modFlyer_within (by intro _; rfl) leads)
  rw [lengths.tame.concernedFlyers]
  exact mem_concernedFlyers_of_memberPoints mem

theorem passMarks_within (sound : FormationsSound s) (leads : leaderOf s f = l) (ms : List Nat) :
    Within l s (passMarks (concernedFlyers s f) ms s) :=
  forEach_concerned_within (key := id) sound leads (fun _ mem => mem) fun g _ leads => modFlyer_within (by intro _; rfl) leads

theorem commitPath_within (sound : FormationsSound s) (leads : leaderOf s f = l) (old : Segment) (k : PathStep) :
    Within l s (commitPath f old k s) := by
  have first := commitPoints_within sound leads k.point k.governed false
  have second : Within l s (modRun f (Run.travelled k.went (decide (k.went.seg ≠ old)))
      (commitPoints (memberPoints (concerned s f) k.point) k.governed false s)) :=
    first.trans (modRun_within (by rw [first.tame.leaderOf, leads]))
  have marks := passMarks_within (second.tame.formationsSound sound) (f := f)
    (by rw [second.tame.leaderOf, leads]) k.went.marks
  rw [second.tame.concernedFlyers] at marks
  exact second.trans marks

/-- A member that fails the separation test is one of the members tested (R53). -/
theorem separationFailure_mem {pts : List (FlyerId × Vec3)} {e : FlyerId × FlyerId}
    (fails : separationFailure before pts = some e) : ∃ x ∈ pts, x.1 = e.1 := by
  induction pts with
  | nil => exact absurd fails nofun
  | cons x rest ih =>
    unfold separationFailure at fails
    split at fails
    · cases fails
      exact ⟨x, List.mem_cons_self, rfl⟩
    · obtain ⟨y, mem, same⟩ := ih fails
      exact ⟨y, List.mem_cons_of_mem x mem, same⟩

/-- A flyer whose point fails the geometric condition is one of those tested (R114). -/
theorem geometryFault_mem {pts : List (FlyerId × Vec3)} {e : FlyerId × CheckKind}
    (fails : geometryFault s pts = some e) : ∃ x ∈ pts, x.1 = e.1 := by
  induction pts with
  | nil => exact absurd fails nofun
  | cons x rest ih =>
    unfold geometryFault at fails
    split at fails
    · cases fails
      exact ⟨x, List.mem_cons_self, rfl⟩
    · obtain ⟨y, mem, same⟩ := ih fails
      exact ⟨y, List.mem_cons_of_mem x mem, same⟩

theorem leaderOf_of_failed {e : FlyerId} {p : Vec3} (sound : FormationsSound s) (leads : leaderOf s f = l)
    (failed : ∃ x ∈ memberPoints (concerned s f) p, x.1 = e) : leaderOf s e = l := by
  obtain ⟨x, mem, rfl⟩ := failed
  rw [leaderOf_of_concerned sound (mem_concernedFlyers_of_memberPoints mem), leads]

/-- The SEPARATION fault after a commit of the formation (R54). -/
theorem separationFault_within (moved : Within l s t) (sound : FormationsSound s) (leads : leaderOf s f = l) (p : Vec3) :
    Within l t (separationFault (separationFailure before (memberPoints (concerned s f) p)) f t) := by
  cases fails : separationFailure before (memberPoints (concerned s f) p) with
  | none => exact Within.refl l t
  | some e =>
    exact (takeFault_within (moved.tame.formationsSound sound) (by
      rw [moved.tame.leaderOf, leaderOf_of_failed sound leads (separationFailure_mem fails)])).ite (Within.refl l t)

theorem handleArrival_within (sound : FormationsSound s) (leads : leaderOf s f = l) : Within l s (handleArrival f s) := by
  unfold handleArrival
  split
  · exact Within.refl l s
  · exact (setStates_modRun_within sound leads _ _).ite (runInterpreter_within sound leads)

theorem holdOutcome_within (sound : FormationsSound s) (leads : leaderOf s f = l) : Within l s (holdOutcome f s) := by
  unfold holdOutcome
  split
  · exact setStates_within sound leads _
  · exact Within.refl l s

theorem arrivalOutcome_within (sound : FormationsSound s) (leads : leaderOf s f = l) : Within l s (arrivalOutcome f s) := by
  have arrived := handleArrival_within sound leads
  unfold arrivalOutcome
  split
  · exact arrived
  · exact arrived.trans (holdOutcome_within (arrived.tame.formationsSound sound) (by rw [arrived.tame.leaderOf, leads]))
  · exact endStop_within sound leads _
  all_goals exact Within.refl l s

theorem restOutcome_within (sound : FormationsSound s) (leads : leaderOf s f = l) (found : FlyerState) :
    Within l s (restOutcome found f s) := by
  unfold restOutcome
  split
  · exact Within.refl l s
  · exact setStates_within sound leads _
  · exact endStop_within sound leads _
  · exact Within.refl l s

theorem finishPath_within (sound : FormationsSound s) (leads : leaderOf s f = l) (old : Segment) (k : PathStep) :
    Within l s (finishPath before f old k s) := by
  have committed := commitPath_within sound leads old k
  have tested := committed.trans (separationFault_within (before := before) committed sound leads k.point)
  have sound' := tested.tame.formationsSound sound
  have leads' := (tested.tame.leaderOf f).trans leads
  exact (tested.trans (arrivalOutcome_within sound' leads')).ite
    ((tested.trans (restOutcome_within sound' leads' _)).ite tested)

theorem governed_error_mem {fs : List (FlyerId × Vec3)} {vp : Nat} {p : Travel} {here : Vec3} {n : Nat} {took : Bool}
    {step : Int} {e : FlyerId × CheckKind} (fails : governed s fs vp p here n took step = .error e) :
    ∃ q, ∃ x ∈ memberPoints fs q, x.1 = e.1 := by
  induction n generalizing took step with
  | zero =>
    unfold governed at fails
    dsimp only at fails
    split at fails
    · next fault =>
      cases fails
      exact ⟨_, geometryFault_mem fault⟩
    · split at fails <;> cases fails
  | succ n ih =>
    unfold governed at fails
    dsimp only at fails
    split at fails
    · next fault =>
      cases fails
      exact ⟨_, geometryFault_mem fault⟩
    · split at fails
      · cases fails
      · exact ih fails

theorem advanceOn_within (sound : FormationsSound s) (leads : leaderOf s f = l) (r : Run) (g : Segment) (here : Vec3) :
    Within l s (advanceOn before f r g here s) := by
  unfold advanceOn
  dsimp only
  split
  · next e fails =>
    obtain ⟨_, failed⟩ := governed_error_mem fails
    exact takeFault_within sound (leaderOf_of_failed sound leads failed)
  · exact finishPath_within sound leads g _

theorem advanceStill_within (sound : FormationsSound s) (leads : leaderOf s f = l) (here : Vec3) :
    Within l s (advanceStill before f here s) := by
  unfold advanceStill
  dsimp only
  split
  · next e fails => exact takeFault_within sound (leaderOf_of_failed sound leads (geometryFault_mem fails))
  · have points := commitPoints_within sound leads here
      (governingLine (lineSteps s (allLengths s (memberPoints (concerned s f) here)))).isSome false
    have committed : Within l s (modRun f (fun r => { r with v := 0 }) _) :=
      points.trans (modRun_within (by rw [points.tame.leaderOf, leads]))
    have tested := committed.trans (separationFault_within (before := before) committed sound leads here)
    exact tested.trans (restOutcome_within (tested.tame.formationsSound sound) ((tested.tame.leaderOf f).trans leads) _)

theorem advancePath_within (sound : FormationsSound s) (leads : leaderOf s f = l) : Within l s (advancePath before f s) := by
  unfold advancePath
  split
  · split
    · exact advanceOn_within sound leads _ _ _
    · exact advanceStill_within sound leads _
  · exact Within.refl l s

theorem jogRest_within (sound : FormationsSound s) (leads : leaderOf s f = l) (j : JogStep) : Within l s (jogRest f j s) := by
  unfold jogRest
  split
  · exact (endStop_within sound leads _).ite (Within.refl l s)
  · exact Within.refl l s

theorem advanceJog_within (sound : FormationsSound s) (leads : leaderOf s f = l) : Within l s (advanceJog before f s) := by
  unfold advanceJog
  split
  · next rig r here _ _ _ =>
    have points := commitPoints_within sound leads (jogStepOf before s f rig r here).cand
      (jogStepOf before s f rig r here).governed (jogStepOf before s f rig r here).atLimit
    have committed : Within l s (modRun f (fun x => { x with jogV := (jogStepOf before s f rig r here).v }) _) :=
      points.trans (modRun_within (by rw [points.tame.leaderOf, leads]))
    exact committed.trans (jogRest_within (committed.tame.formationsSound sound) ((committed.tame.leaderOf f).trans leads) _)
  · exact Within.refl l s

/-- The member that BRAKE_TIMEOUT names belongs to a flyer tested (R38). -/
theorem firstBraked_mem {fs : List FlyerId} {e : FlyerId × AxisId} (found : firstBraked s fs = some e) : e.1 ∈ fs := by
  induction fs with
  | nil => exact absurd found nofun
  | cons f fs ih =>
    rw [firstBraked_cons] at found
    split at found
    · cases found
      exact List.mem_cons_self
    · exact List.mem_cons_of_mem f (ih found)

theorem brakeTimeoutOn_within (sound : FormationsSound s) (leads : leaderOf s f = l) : Within l s (brakeTimeoutOn f s) := by
  unfold brakeTimeoutOn
  split
  · next e found => exact takeFault_within sound (by rw [leaderOf_of_concerned sound (firstBraked_mem found), leads])
  · exact Within.refl l s

theorem countBrake_within (sound : FormationsSound s) (leads : leaderOf s f = l) : Within l s (countBrake f s) := by
  unfold countBrake
  split
  · exact Within.refl l s
  · have counted : Within l s (modRun f (fun x => { x with brake := x.brake - 1 }) s) := modRun_within leads
    exact (counted.trans (brakeTimeoutOn_within (counted.tame.formationsSound sound)
      ((counted.tame.leaderOf f).trans leads))).ite counted

theorem countDwell_within (sound : FormationsSound s) (leads : leaderOf s f = l) : Within l s (countDwell f s) := by
  unfold countDwell
  split
  · exact Within.refl l s
  · have counted : Within l s (modRun f (fun x => { x with dwell := x.dwell - 1 }) s) := modRun_within leads
    exact (counted.trans (runInterpreter_within (counted.tame.formationsSound sound)
      ((counted.tame.leaderOf f).trans leads))).ite counted

theorem advanceFlyer_within (sound : FormationsSound s) (leads : leaderOf s f = l) :
    Within l s (advanceFlyer before f s) := by
  unfold advanceFlyer
  split
  case h_1 =>
    have aged : Within l s (ageJog f s) := modRun_within leads
    exact aged.trans (countBrake_within (aged.tame.formationsSound sound) ((aged.tame.leaderOf f).trans leads))
  case h_2 => exact countDwell_within sound leads
  case h_3 | h_4 => exact advancePath_within sound leads
  case h_5 => exact (advanceJog_within sound leads).ite (advancePath_within sound leads)
  case h_6 =>
    have moved := advanceJog_within (before := before) sound leads
    exact moved.trans (modRun_within ((moved.tame.leaderOf f).trans leads))
  all_goals exact Within.refl l s

/-! ## The trajectory unit's share of a frame (R108, R118) -/

/-- A state that no frame advances (R108). -/
def Stands (x : FlyerState) : Prop :=
  match x with
  | .cueRun .waiting | .held _ | .undefined | .unready | .unlocated | .parked | .faulted => True
  | .releasing | .cueRun .moving | .cueRun .dwelling | .holding | .jogging | .stopping _ => False

theorem advanceFlyer_of_stands (stands : Stands (s.flyer f).state) : advanceFlyer before f s = s := by
  unfold advanceFlyer
  split <;> first | rfl | (next state => rw [state] at stands; exact stands.elim)

/-- A flyer whose leader is not advanced, or stands, is left by the advance of others (R108, R118). -/
theorem flyer_forEach_advance {fs : List FlyerId} (sound : FormationsSound s) (lead : ∀ f ∈ fs, leaderOf s f = f)
    (still : leaderOf s g ∉ fs ∨ Stands (s.flyer (leaderOf s g)).state) :
    (forEach fs (advanceFlyer before) s).flyer g = s.flyer g := by
  induction fs generalizing s with
  | nil => rfl
  | cons f fs ih =>
    have moved : Within f s (advanceFlyer before f s) := advanceFlyer_within sound (lead f List.mem_cons_self)
    have sound' := moved.tame.formationsSound sound
    have lead' (h : FlyerId) (mem : h ∈ fs) : leaderOf (advanceFlyer before f s) h = h := by
      rw [moved.tame.leaderOf]
      exact lead h (List.mem_cons_of_mem f mem)
    rw [forEach_cons]
    by_cases own : leaderOf s g = f
    · have stands : Stands (s.flyer f).state := by
        rcases still with outside | stands
        · exact absurd (own ▸ List.mem_cons_self) outside
        · rwa [own] at stands
      rw [advanceFlyer_of_stands stands]
      exact ih sound (fun h mem => lead h (List.mem_cons_of_mem f mem)) (.inr (own ▸ stands))
    · refine (ih sound' lead' ?_).trans (moved.others g own)
      rw [moved.tame.leaderOf]
      refine still.imp (fun outside mem => outside (List.mem_cons_of_mem f mem)) fun stands => ?_
      rwa [moved.others _ (by rwa [leaderOf_leaderOf sound])]

/-- Flyers that all stand are left as they are, and so is every other piece of state. -/
theorem forEach_advance_of_stands {fs : List FlyerId} (stands : ∀ f ∈ fs, Stands (s.flyer f).state) :
    forEach fs (advanceFlyer before) s = s := by
  induction fs with
  | nil => rfl
  | cons f fs ih =>
    rw [forEach_cons, advanceFlyer_of_stands (stands f List.mem_cons_self)]
    exact ih fun g mem => stands g (List.mem_cons_of_mem f mem)

/-- One flyer that advances among flyers that stand (R118). -/
theorem forEach_advance_one {fs : List FlyerId} (sound : FormationsSound s) (nodup : fs.Nodup) (mem : f ∈ fs)
    (lead : ∀ g ∈ fs, leaderOf s g = g) (stands : ∀ g ∈ fs, g ≠ f → Stands (s.flyer g).state) :
    forEach fs (advanceFlyer before) s = advanceFlyer before f s := by
  induction fs with
  | nil => exact (List.not_mem_nil mem).elim
  | cons g fs ih =>
    obtain ⟨once, nodup⟩ := List.nodup_cons.mp nodup
    rw [forEach_cons]
    by_cases own : g = f
    · subst own
      refine forEach_advance_of_stands fun h late => ?_
      have other : h ≠ g := fun same => once (same ▸ late)
      have moved : Within g s (advanceFlyer before g s) := advanceFlyer_within sound (lead g List.mem_cons_self)
      rw [moved.others h (by rwa [lead h (List.mem_cons_of_mem g late)])]
      exact stands h (List.mem_cons_of_mem g late) other
    · rw [advanceFlyer_of_stands (stands g List.mem_cons_self own)]
      exact ih nodup ((List.mem_cons.mp mem).resolve_left (Ne.symm own)) (fun h late => lead h (List.mem_cons_of_mem g late))
        fun h late => stands h (List.mem_cons_of_mem g late)

theorem forEach_skip (c : FlyerId → Bool) (op : FlyerId → State → State) (fs : List FlyerId) (s : State) :
    forEach fs (fun f t => if c f then t else op f t) s = forEach (fs.filter fun f => !c f) op s := by
  induction fs generalizing s with
  | nil => rfl
  | cons f fs ih =>
    rw [forEach_cons, ih]
    cases skip : c f with
    | true => rw [if_pos rfl, List.filter_cons_of_neg (by simp [skip])]
    | false => rw [if_neg (by simp), List.filter_cons_of_pos (by simp [skip]), forEach_cons]

/-- The frame with every indication cleared, and then every flyer that is no follower advanced (R108, R118). -/
theorem trajectoryFrame_eq (s : State) :
    ∃ F,
      let u : State := { s with flyers := F }
      (∀ g, u.flyer g = { s.flyer g with governed := false, atLimit := false }) ∧
      trajectoryFrame s = forEach (allFlyers.filter fun f => !isFollower s f) (advanceFlyer u) u := by
  obtain ⟨F, shape⟩ := FlyersOnly.forEach (fun f s => modFlyer_flyersOnly f clearIndications s) allFlyers s
  have flyer (g : FlyerId) := flyer_forEach_modFlyer_idem (k := clearIndications) (fun _ => rfl) allFlyers s g
  rw [shape] at flyer
  refine ⟨F, fun g => (flyer g).trans (if_pos (mem_allFlyers g)), ?_⟩
  unfold trajectoryFrame
  dsimp only
  rw [shape]
  exact forEach_skip (isFollower s) _ allFlyers _

theorem mem_leaders : f ∈ allFlyers.filter (fun f => !isFollower s f) ↔ leaderOf s f = f := by
  simp [mem_allFlyers, isFollower_eq_false_iff]

end Sys2Proof.Machine
end

section
/-! What the frame advance makes of a flyer and its formation, by its state (R53, R54, R97 to R135). -/

namespace Sys2Proof.Machine

variable {s t u v w c before : State} {f g h l : FlyerId} {a : AxisId} {r : Run} {p here : Vec3}
  {governed_ atLimit : Bool}

/-! ## The commit (R97, R117, R118, R133) -/

theorem map_fst_memberPoints (fs : List (FlyerId × Vec3)) (p : Vec3) :
    (memberPoints fs p).map (fun e => e.1) = fs.map fun e => e.1 := by
  rw [memberPoints, List.map_map]
  rfl

/-- The axes of a flyer's lines. -/
def lineAxes (s : State) (f : FlyerId) : List AxisId :=
  match rigOf s f with
  | some r => r.lines.map fun l => l.1
  | none => []

theorem lineAxes_of_rig {rig : Rig} (has : rigOf s f = some rig) : lineAxes s f = rig.lines.map fun l => l.1 := by
  rw [lineAxes, has]

theorem lineAxes_sublist (s : State) (f : FlyerId) : (lineAxes s f).Sublist (membersOf s f) := by
  cases has : rigOf s f with
  | none =>
    rw [lineAxes, has]
    exact List.nil_sublist _
  | some rig =>
    rw [lineAxes_of_rig has]
    exact lines_sublist_members has

theorem map_fst_allLengths (s : State) (pts : List (FlyerId × Vec3)) :
    (allLengths s pts).map (fun l => l.1) = pts.flatMap fun e => lineAxes s e.1 := by
  rw [allLengths, List.map_flatMap]
  refine List.flatMap_congr fun e _ => ?_
  cases has : rigOf s e.1 with
  | none => simp only [lineAxes, has, List.map_nil]
  | some rig => simp only [lineAxes, has, map_fst_lineLengths]

/-- Each line of a formation has an axis of its own (R31). -/
theorem nodup_allLengths (apart : MembersApart s) {pts : List (FlyerId × Vec3)} (nodup : (pts.map fun e => e.1).Nodup) :
    ((allLengths s pts).map fun l => l.1).Nodup := by
  rw [map_fst_allLengths, List.nodup_flatMap]
  refine ⟨fun e _ => (apart.2 e.1).sublist (lineAxes_sublist s e.1), ?_⟩
  rw [List.Nodup, List.pairwise_map] at nodup
  refine nodup.imp fun {x y} other a inX inY => other ?_
  exact apart.1 x.1 y.1 a ((lineAxes_sublist s x.1).subset inX) ((lineAxes_sublist s y.1).subset inY)

/-- The commit of the points of a formation (R97, R117). -/
theorem commitPoints_committedTo (sound : FormationsSound s) (apart : MembersApart s) (f : FlyerId) (p : Vec3)
    (governed_ atLimit : Bool) :
    CommittedTo s (commitPoints (memberPoints (concerned s f) p) governed_ atLimit s) f p governed_ atLimit
      fun _ x => x := by
  have keys : ((memberPoints (concerned s f) p).map fun e => e.1).Nodup := by
    rw [map_fst_memberPoints]
    exact nodup_concernedFlyers sound f
  obtain ⟨changed, stands⟩ := axis_forEach_modAxis_keyed (fun l : AxisId × AxisParams × Int => l.1)
    (fun l => commitAxis l.2.1 l.2.2) (nodup_allLengths apart keys) s
  obtain ⟨A, lengths⟩ : ∃ A, forEach (allLengths s (memberPoints (concerned s f) p))
      (fun l => modAxis l.1 (commitAxis l.2.1 l.2.2)) s = { s with axes := A } :=
    forEach_rel (fun s t => ∃ A, t = { s with axes := A }) (fun s => ⟨s.axes, rfl⟩)
      (by rintro _ _ _ ⟨_, rfl⟩ ⟨A, rfl⟩; exact ⟨A, rfl⟩) _ _ (fun _ _ _ => ⟨_, rfl⟩) s
  have flyers := FlyersOnly.forEach (fun (e : FlyerId × Vec3) => modFlyer_flyersOnly e.1
    (fun x => { x with point := some e.2, governed := governed_, atLimit := atLimit }))
    (memberPoints (concerned s f) p) { s with axes := A }
  have axis (a : AxisId) := flyers.axis a
  rw [lengths] at changed stands
  refine
    { frame := ?_, members := fun e mem => ?_, others := fun h outside => ?_, lines := fun e mem rig has l inLines => ?_,
      spared := fun a free => ?_ }
  all_goals rw [commitPoints, lengths]
  · obtain ⟨F, shape⟩ := flyers
    exact ⟨A, F, shape⟩
  · exact flyer_forEach_modFlyer Prod.fst
      (fun (e : FlyerId × Vec3) x => { x with point := some e.2, governed := governed_, atLimit := atLimit })
      (memberPoints (concerned s f) p) { s with axes := A } keys (e.1, p.add (mmToNano e.2))
      (List.mem_map.mpr ⟨e, mem, rfl⟩)
  · exact flyer_forEach_modFlyer_of_notMem Prod.fst
      (fun (e : FlyerId × Vec3) x => { x with point := some e.2, governed := governed_, atLimit := atLimit })
      h (memberPoints (concerned s f) p) { s with axes := A }
      (by rw [show (memberPoints (concerned s f) p).map Prod.fst = _ from map_fst_memberPoints _ p]; exact outside)
  · refine (axis l.1).trans (changed l (List.mem_flatMap.mpr ⟨_, List.mem_map.mpr ⟨e, mem, rfl⟩, ?_⟩))
    simp only [has]
    exact inLines
  · refine (axis a).trans (stands a fun named => ?_)
    rw [map_fst_allLengths] at named
    obtain ⟨e, mem, inLines⟩ := List.mem_flatMap.mp named
    obtain ⟨x, member, rfl⟩ := List.mem_map.mp mem
    cases has : rigOf s x.1 with
    | none => simp [lineAxes, has] at inLines
    | some rig => exact free x member rig has (by rwa [← lineAxes_of_rig has])

/-- What changes flyer records alone after a commit. -/
theorem CommittedTo.of_flyersOnly {k k' : FlyerId → Flyer → Flyer} (committed : CommittedTo s c f p governed_ atLimit k)
    (only : FlyersOnly c w)
    (members : ∀ e ∈ concerned s f, w.flyer e.1 =
      { k' e.1 (s.flyer e.1) with point := some (p.add (mmToNano e.2)), governed := governed_, atLimit := atLimit })
    (others : ∀ h, h ∉ concernedFlyers s f → w.flyer h = c.flyer h) : CommittedTo s w f p governed_ atLimit k' where
  frame := by
    obtain ⟨A, _, rfl⟩ := committed.frame
    obtain ⟨F, rfl⟩ := only
    exact ⟨A, F, rfl⟩
  members := members
  others h outside := (others h outside).trans (committed.others h outside)
  lines e mem rig has l inLines := (only.axis l.1).trans (committed.lines e mem rig has l inLines)
  spared a free := (only.axis a).trans (committed.spared a free)

/-- A run changed at a commit. -/
theorem CommittedTo.modRun (committed : CommittedTo s c f p governed_ atLimit fun _ x => x) (k : Run → Run)
    (run : (s.flyer f).run = some r) :
    CommittedTo s (modRun f k c) f p governed_ atLimit fun h x => { x with run := if h = f then some (k r) else x.run } := by
  refine committed.of_flyersOnly (modRun_flyersOnly f k c) (fun e mem => ?_) fun h outside => ?_
  · rw [flyer_modRun]
    by_cases own : e.1 = f
    · have held : (s.flyer e.1).run = some r := by rw [own, run]
      rw [if_pos own, if_pos own, committed.members e mem]
      simp only [held, Option.map_some]
    · rw [if_neg own, if_neg own, committed.members e mem]
  · rw [flyer_modRun, if_neg fun (same : h = f) => outside (by rw [same]; exact self_mem_concernedFlyers s f)]

theorem CommittedTo.passMarks {k : FlyerId → Flyer → Flyer} (sound : FormationsSound s)
    (committed : CommittedTo s c f p governed_ atLimit k) (ms : List Nat) :
    CommittedTo s (passMarks (concernedFlyers s f) ms c) f p governed_ atLimit fun h x =>
      takeMarks ms (k h x) := by
  have flyer := flyer_forEach_modFlyer_nodup (nodup_concernedFlyers sound f) (fun _ => takeMarks ms) c
  refine committed.of_flyersOnly (FlyersOnly.forEach (fun g => modFlyer_flyersOnly g (takeMarks ms)) _ c) (fun e mem => ?_)
    fun h outside => ?_
  · exact (flyer e.1).trans (by rw [if_pos (mem_concernedFlyers_of_concerned mem), committed.members e mem]; rfl)
  · exact (flyer h).trans (if_neg outside)

theorem CommittedTo.congr {k k' : FlyerId → Flyer → Flyer} (committed : CommittedTo s c f p governed_ atLimit k)
    (same : ∀ h x, k h x = k' h x) : CommittedTo s c f p governed_ atLimit k' := by
  rwa [← funext fun h => funext fun x => same h x]

/-- The flyer of a formation that is named is its first member, at no offset (R44). -/
theorem mem_concerned_self (s : State) (f : FlyerId) : ∃ e ∈ concerned s f, e.1 = f := by
  obtain ⟨e, mem, same⟩ := List.mem_map.mp (self_mem_concernedFlyers s f)
  exact ⟨e, mem, same⟩

theorem CommittedTo.own {k : FlyerId → Flyer → Flyer} (committed : CommittedTo s c f p governed_ atLimit k) :
    ∃ q, c.flyer f = { k f (s.flyer f) with point := some q, governed := governed_, atLimit := atLimit } := by
  obtain ⟨e, mem, same⟩ := mem_concerned_self s f
  have own := committed.members e mem
  rw [same] at own
  exact ⟨_, own⟩

/-! ## A fault that leaves a flyer in motion (R54, R157) -/

/-- The states of a flyer on a cue path that is not stopping. -/
def FlyerState.onCue : FlyerState → Bool
  | .cueRun _ | .holding => true
  | .undefined | .unready | .unlocated | .parked | .releasing | .held _ | .jogging | .stopping _ | .faulted => false

theorem onCue_struck (via : Bool) (cls : FaultClass) (clears : Bool) (d : Cause) (ready : Bool) (x : Flyer) :
    (struck via cls clears d ready x).state.onCue = false := by
  have rest (ready located : Bool) : (readyState ready located .unready).onCue = false := by
    cases ready <;> cases located <;> rfl
  have dropped : (if clears = true then dropLocated x else x).state = x.state := by split <;> rfl
  have kept (st : FlyerState) (state : x.state = st) (off : st.onCue = false) :
      (if clears = true then dropLocated x else x).state.onCue = false := by rw [dropped, state, off]
  cases state : x.state with
  | undefined => simpa only [struck, state] using kept _ state rfl
  | faulted => simpa only [struck, state] using kept _ state rfl
  | unready | unlocated | parked =>
    simp only [struck, state]
    split
    · exact rest _ _
    · rfl
  | releasing => simp only [struck, state]; rfl
  | held | cueRun | holding | jogging =>
    simp only [struck, state]
    split <;> rfl
  | stopping why =>
    cases why with
    | request =>
      simp only [struck, state]
      split <;> rfl
    | fault | allStop =>
      simp only [struck, state]
      split
      · rfl
      · exact kept _ state rfl

/-- A flyer that a fault leaves on its cue path was not struck by it (R157). -/
theorem takeFault_onCue {via : Bool} {cls : FaultClass} {d : Cause} (moving : ((takeFault via cls d g s).flyer f).state.onCue = true) :
    (takeFault via cls d g s).flyer f = s.flyer f := by
  rw [takeFault_eq] at moving ⊢
  have all := forEach_rel (fun s t => (t.flyer f).state.onCue = true → t.flyer f = s.flyer f) (fun _ _ => rfl)
    (fun _ _ _ first second moving => (second moving).trans (first (by rwa [← second moving])))
    (strike via cls d.code.clearsLocated) (strikes cls d g s) (fun e _ s moving => by
      rw [flyer_strike] at moving ⊢
      split at moving
      · rw [onCue_struck] at moving
        cases moving
      · next other => rw [if_neg other]) s
  exact all moving

end Sys2Proof.Machine
end

section
/-! The frame advance of a flyer: on its brake and dwell counts, on a cue path and on a jog (R54, R99, R103, R104,
R108 to R120, R122, R127 to R135). -/

namespace Sys2Proof.Machine

variable {s t u v w c before : State} {f g h l : FlyerId} {a : AxisId} {r : Run} {p here : Vec3} {why : StopReason}

/-! ## The counts of a frame (R99, R104, R127) -/

theorem aged_eq (r : Run) :
    r.aged = { r with jogValid := r.jogValid - 1, jogReq := if r.jogValid = 1 then Vec3.zero else r.jogReq } := by
  obtain ⟨valid, count⟩ : ∃ n, r.jogValid = n := ⟨_, rfl⟩
  match valid with
  | 0 =>
    obtain ⟨_, _, _, _, _, _, _, _, _, _, _, _, _, _, _⟩ := r
    cases count
    rfl
  | 1 => simp only [Run.aged, count, if_pos]
  | n + 2 => simp [Run.aged, count]

/-- The run of a flyer in RELEASING after the counts of a frame (R99, R127). -/
def releaseCounted (r : Run) : Run :=
  { r with
    brake := r.brake - 1, jogValid := r.jogValid - 1
    jogReq := if r.jogValid = 1 then Vec3.zero else r.jogReq }

theorem advanceFlyer_releasing (releasing : (s.flyer f).state = .releasing) (run : (s.flyer f).run = some r) :
    advanceFlyer before f s =
      if r.brake ≤ 1 then brakeTimeoutOn f (withRun f (releaseCounted r) s) else withRun f (releaseCounted r) s := by
  have aged : ageJog f s = withRun f r.aged s := modRun_of_run _ run
  have held : ((withRun f r.aged s).flyer f).run = some r.aged := by rw [flyer_withRun]
  have twice (x : Run) : withRun f x (withRun f r.aged s) = withRun f x s := by
    rw [withRun, flyer_withRun, setFlyer_withRun]
    rfl
  have brake : r.aged.brake = r.brake := by rw [aged_eq]
  rw [advanceFlyer, releasing]
  dsimp only
  rw [aged, countBrake, held]
  dsimp only
  rw [modRun_of_run _ held, twice, brake, aged_eq]
  rfl

theorem advanceFlyer_dwelling (dwelling : (s.flyer f).state = .cueRun .dwelling) (run : (s.flyer f).run = some r) :
    advanceFlyer before f s =
      if r.dwell ≤ 1 then runInterpreter f (withRun f { r with dwell := r.dwell - 1 } s)
      else withRun f { r with dwell := r.dwell - 1 } s := by
  rw [advanceFlyer, dwelling]
  dsimp only
  rw [countDwell, run]
  dsimp only
  rw [modRun_of_run _ run]

/-! ## A cue path (R54, R103, R108 to R120, R122) -/

/-- The SEPARATION fault of a member against another flyer (R54). -/
def separationCause (g : FlyerId) : Cause :=
  { code := .separation, axis := none, station := none, detail := .number g.val }

theorem separationFault_eq (bad : Option (FlyerId × FlyerId)) (f : FlyerId) (s : State) :
    separationFault bad f s =
      match bad, (s.flyer f).state with
      | some e, .cueRun _ | some e, .holding | some e, .stopping .request =>
        takeFault false .flyerStop (separationCause e.2) e.1 s
      | _, _ => s := by
  cases bad with
  | none => cases (s.flyer f).state <;> rfl
  | some e =>
    unfold separationFault
    cases (s.flyer f).state with
    | stopping why => cases why <;> rfl
    | _ => rfl

/-- A flyer that the separation test leaves on its path was not faulted (R54). -/
theorem separationFault_onCue {bad : Option (FlyerId × FlyerId)}
    (moving : ((separationFault bad f s).flyer f).state.onCue = true) : (separationFault bad f s).flyer f = s.flyer f := by
  unfold separationFault at moving ⊢
  split at moving
  · rfl
  · split at moving
    · next acts => rw [if_pos acts]; exact takeFault_onCue moving
    · next calm => rw [if_neg calm]

/-- The end of a stop by the reason of the state that a flyer is in (R122). -/
def stopEnded (f : FlyerId) (s : State) : State :=
  match (s.flyer f).state with
  | .stopping .request => leaveRun f .parked s
  | .stopping _ => leaveRun f .faulted s
  | _ => s

theorem restOutcome_stopping (stays : (s.flyer f).state.onCue = false) (why : StopReason) :
    restOutcome (.stopping why) f s = stopEnded f s := by
  unfold restOutcome stopEnded
  cases state : (s.flyer f).state with
  | holding => rw [state] at stays; cases stays
  | stopping why => cases why <;> rfl
  | _ => rfl

/-- What a frame leaves of a flyer without a current segment whose stages pass (R108, R122). -/
def stillCommitted (took : Bool) (f : FlyerId) (here : Vec3) (s : State) : State :=
  modRun f (fun r => { r with v := 0 }) (commitPoints (memberPoints (concerned s f) here) took false s)

theorem advanceFlyer_stopping_path (state : (s.flyer f).state = .stopping why) (run : (s.flyer f).run = some r)
    (kind : r.kind = .path) : advanceFlyer before f s = advancePath before f s := by
  rw [advanceFlyer, state]
  dsimp only
  rw [if_neg (by simp [jogKind, run, kind])]

theorem advancePath_still (run : (s.flyer f).run = some r) (seg : r.seg = none) (point : (s.flyer f).point = some here) :
    advancePath before f s = advanceStill before f here s := by
  rw [advancePath, run, point]
  dsimp only
  rw [seg]

theorem advancePath_on {x : Segment} (run : (s.flyer f).run = some r) (seg : r.seg = some x)
    (point : (s.flyer f).point = some here) : advancePath before f s = advanceOn before f r x here s := by
  rw [advancePath, run, point]
  dsimp only
  rw [seg]

/-- Some line exceeds its limit exactly where a governing line is found (R115). -/
theorem governingLine_isSome (ls : List LineStep) :
    (governingLine ls).isSome = ls.any fun x => decide (x.limit < x.delta) := by
  cases ls with
  | nil => rfl
  | cons x rest =>
    simp only [governingLine]
    split
    · next over_ => rw [over_]; rfl
    · next within_ => exact (Bool.eq_false_iff.mpr within_).symm

theorem any_lineSteps (s : State) (ls : List (AxisId × AxisParams × Int)) :
    ((lineSteps s ls).any fun x => decide (x.limit < x.delta)) =
      ls.any fun l => (s.axis l.1).committed.any fun c => decide (l.2.1.vline * s.t < (l.2.2 - c).natAbs) := by
  rw [lineSteps, List.any_filterMap]
  congr 1
  funext l
  cases held : (s.axis l.1).committed with
  | none => rfl
  | some c => exact decide_eq_decide.mpr Int.ofNat_lt

theorem advanceStill_fault {e : FlyerId × CheckKind} (fails : geometryFault s (memberPoints (concerned s f) here) = some e) :
    advanceStill before f here s = pathGeometryFault e s := by
  rw [advanceStill]
  dsimp only
  rw [fails]

theorem advanceStill_ok (sound : geometryFault s (memberPoints (concerned s f) here) = none) :
    advanceStill before f here s =
      restOutcome (s.flyer f).state f (separationFault (separationFailure before (memberPoints (concerned s f) here)) f
        (stillCommitted (governingLine (lineSteps s (allLengths s (memberPoints (concerned s f) here)))).isSome f here s)) := by
  rw [advanceStill]
  dsimp only
  rw [sound]
  rfl

theorem stillCommitted_committedTo (sound : FormationsSound s) (apart : MembersApart s) (run : (s.flyer f).run = some r)
    (took : Bool) (here : Vec3) :
    CommittedTo s (stillCommitted took f here s) f here took false fun h x =>
      { x with run := if h = f then some { r with v := 0 } else x.run } :=
  (commitPoints_committedTo sound apart f here took false).modRun _ run

theorem commitPath_committedTo (sound : FormationsSound s) (apart : MembersApart s) (run : (s.flyer f).run = some r)
    (x : Segment) (k : PathStep) :
    CommittedTo s (commitPath f x k s) f k.point k.governed false fun h y =>
      { y with
        mark := k.went.marks.getLast?.getD y.mark
        markCount := (y.markCount + k.went.marks.length) % 65536
        run := if h = f then some { r with
            seg := some k.went.seg, d := k.went.d, v := k.went.v
            posRecord := if k.went.seg = x then r.posRecord else k.went.seg.record + 1 }
          else y.run } := by
  have committed := ((commitPoints_committedTo sound apart f k.point k.governed false).modRun
    (Run.travelled k.went (decide (k.went.seg ≠ x))) run).passMarks sound k.went.marks
  refine committed.congr fun h y => ?_
  by_cases same : k.went.seg = x <;> simp [takeMarks, Run.travelled, same]

theorem commitPath_tame (f : FlyerId) (x : Segment) (k : PathStep) (s : State) : Tame s (commitPath f x k s) :=
  (commitPath_gentle f x k s).tame

/-- An arrival at the end of a segment (R103). -/
theorem handleArrival_eq {x : Segment} (seg : ((s.flyer f).run.bind fun r => r.seg) = some x) :
    handleArrival f s =
      if 0 < dwellOf s.dir x then
        setStates (concernedFlyers s f) (.cueRun .dwelling)
          (s.setFlyer f { s.flyer f with run := (s.flyer f).run.map fun r => { r with dwell := frames (dwellOf s.dir x) s.t } })
      else runInterpreter f s := by
  rw [handleArrival, seg]
  rfl

theorem advanceOn_fault {x : Segment} {e : FlyerId × CheckKind}
    (fails : governed s (concerned s f) (limitsOf s f).vp
      { seg := x, d := r.d, v := lesser (candidateSpeed (s.flyer f).state (limitsOf s f) s.t r.v x.cap)
          (brakingBound (limitsOf s f).ap (x.len - r.d) (windowAfter s.dir (limitsOf s f).vp Config.lookaheadAfter x)),
        step := 0, marks := [], arrived := false } here 3 false
      (lesser (candidateSpeed (s.flyer f).state (limitsOf s f) s.t r.v x.cap)
          (brakingBound (limitsOf s f).ap (x.len - r.d) (windowAfter s.dir (limitsOf s f).vp Config.lookaheadAfter x)) * s.t) =
      .error e) :
    advanceOn before f r x here s = pathGeometryFault e s := by
  rw [advanceOn]
  simp only [fails]

theorem advanceOn_ok {x : Segment} {k : PathStep}
    (steps : governed s (concerned s f) (limitsOf s f).vp
      { seg := x, d := r.d, v := lesser (candidateSpeed (s.flyer f).state (limitsOf s f) s.t r.v x.cap)
          (brakingBound (limitsOf s f).ap (x.len - r.d) (windowAfter s.dir (limitsOf s f).vp Config.lookaheadAfter x)),
        step := 0, marks := [], arrived := false } here 3 false
      (lesser (candidateSpeed (s.flyer f).state (limitsOf s f) s.t r.v x.cap)
          (brakingBound (limitsOf s f).ap (x.len - r.d) (windowAfter s.dir (limitsOf s f).vp Config.lookaheadAfter x)) * s.t) =
      .ok k) :
    advanceOn before f r x here s = finishPath before f x k s := by
  rw [advanceOn]
  simp only [steps]

theorem lesser_eq_min (a b : Int) : lesser a b = min a b := rfl

theorem advanceFlyer_path (run : (s.flyer f).run = some r) (kind : r.kind = .path)
    (state : ∀ x, (s.flyer f).state = x → x = .cueRun .moving ∨ x = .holding ∨ ∃ why, x = .stopping why) :
    advanceFlyer before f s = advancePath before f s := by
  rcases state _ rfl with moving | holding | ⟨why, stopping⟩
  · rw [advanceFlyer, moving]
  · rw [advanceFlyer, holding]
  · exact advanceFlyer_stopping_path stopping run kind

/-- The run of a flyer that goes on along its path after the separation test stands on the segment it has travelled to
(R117). -/
theorem separationFault_run {k : FlyerId → Flyer → Flyer} {bad : Option (FlyerId × FlyerId)} {q : Vec3}
    {gov lim : Bool} (committed : CommittedTo s c f q gov lim k)
    (moving : ((separationFault bad f c).flyer f).state.onCue = true) :
    ((separationFault bad f c).flyer f).run = (k f (s.flyer f)).run := by
  obtain ⟨_, own⟩ := committed.own
  rw [separationFault_onCue moving, own]

/-! ## A jog (R127 to R135) -/

/-- What a jog frame commits (R133). -/
def jogCommitted (j : JogStep) (f : FlyerId) (s : State) : State :=
  modRun f (fun x => { x with jogV := j.v })
    (commitPoints (memberPoints (concerned s f) j.cand) j.governed j.atLimit s)

theorem jogCommitted_committedTo (sound : FormationsSound s) (apart : MembersApart s) (run : (s.flyer f).run = some r)
    (j : JogStep) :
    CommittedTo s (jogCommitted j f s) f j.cand j.governed j.atLimit fun h x =>
      { x with run := if h = f then some { r with jogV := j.v } else x.run } :=
  (commitPoints_committedTo sound apart f j.cand j.governed j.atLimit).modRun _ run

theorem advanceJog_eq {rig : Rig} (has : rigOf s f = some rig) (run : (s.flyer f).run = some r)
    (point : (s.flyer f).point = some here) :
    advanceJog before f s =
      jogRest f (jogStepOf before s f rig r here) (jogCommitted (jogStepOf before s f rig r here) f s) := by
  rw [advanceJog, has, run, point]
  rfl

theorem advanceFlyer_jogging (jogging : (s.flyer f).state = .jogging) :
    advanceFlyer before f s = ageJog f (advanceJog before f s) := by
  rw [advanceFlyer, jogging]

theorem advanceFlyer_stopping_jog (state : (s.flyer f).state = .stopping why) (run : (s.flyer f).run = some r)
    (kind : r.kind = .jog) : advanceFlyer before f s = advanceJog before f s := by
  rw [advanceFlyer, state]
  dsimp only
  rw [if_pos (by simp [jogKind, run, kind])]

end Sys2Proof.Machine
end

section
/-! A motion frame at the drive ports, and the whole frame (R108, R137, R142, R151, R165). -/

namespace Sys2Proof.Machine

variable {s t u : State} {f g : FlyerId} {p q : PortId} {ps : List PortId} {before : State} {r : Run}

/-! ## One port (R137) -/

/-- A change of axes, flyers, ports and log alone. -/
def PortsOnly (s t : State) : Prop := ∃ A F P L, t = { s with axes := A, flyers := F, ports := P, log := L }

theorem PortsOnly.refl (s : State) : PortsOnly s s := ⟨s.axes, s.flyers, s.ports, s.log, rfl⟩

theorem PortsOnly.trans (first : PortsOnly s t) (second : PortsOnly t u) : PortsOnly s u := by
  obtain ⟨_, _, _, _, rfl⟩ := first
  obtain ⟨A, F, P, L, rfl⟩ := second
  exact ⟨A, F, P, L, rfl⟩

theorem Tame.portsOnly (tame : Tame s t) : PortsOnly s t := by
  obtain ⟨A, F, L, rfl⟩ := tame.frame
  exact ⟨A, F, s.ports, L, rfl⟩

/-- What a motion frame makes of a port (R137, R142, R151). -/
structure PortFramed (x y : Port) : Prop where
  last : y.last = some x.next
  next : y.next = x.next + 1
  answered : y.answered = false
  sent : y.sent = x.sent + 1
  miss : y.miss = if x.last.isSome = true ∧ x.answered = false then min (x.miss + 1) 255 else x.miss
  missed : y.missed = if x.last.isSome = true ∧ x.answered = false then x.missed + 1 else x.missed
  good : y.good = x.good
  discarded : y.discarded = x.discarded
  shadow : y.shadow = x.shadow
  swap : y.swap = false
  stays : x.swap = false → y.active = x.active
  swaps : x.swap = true → y.active = x.active ∨ y.active = x.shadow

/-- A port after its miss accounting (R142). -/
def Port.counted (x : Port) : Port := if x.unanswered then x.missedOne else x

theorem accountMiss_eq (p : PortId) (s : State) :
    Tame (s.setPort p (s.port p).counted) (accountMiss p s) := by
  unfold accountMiss Port.counted
  split
  · unfold takeMiss
    dsimp only
    split
    · rw [feedbackLostFaults_eq]
      exact (loseSlot_tame p _ _).trans (loseSlot_tame p _ _)
    · exact Tame.refl _
  · have same : s.setPort p (s.port p) = s := by simp [State.setPort, State.port]
    rw [same]
    exact Tame.refl s

theorem port_accountMiss (p q : PortId) (s : State) :
    (accountMiss p s).port q = if p = q then (s.port p).counted else s.port q :=
  ((accountMiss_eq p s).port q).trans (State.port_setPort ..)

theorem accountMiss_portsOnly (p : PortId) (s : State) : PortsOnly s (accountMiss p s) :=
  PortsOnly.trans (t := s.setPort p (s.port p).counted) ⟨s.axes, s.flyers, _, s.log, rfl⟩ (accountMiss_eq p s).portsOnly

/-- What the swap stage makes of its port (R151). -/
def SwapTaken (x y : Port) : Prop :=
  (x.swap = false ∧ y = x) ∨ (x.swap = true ∧ (y = { x with swap := false } ∨ y = { x with active := x.shadow, swap := false }))

theorem takeSwap_shape (p : PortId) (s : State) :
    ∃ y, SwapTaken (s.port p) y ∧ ∃ A F L, takeSwap p s = { s.setPort p y with axes := A, flyers := F, log := L } := by
  cases pending : (s.port p).swap with
  | false =>
    refine ⟨s.port p, .inl ⟨pending, rfl⟩, s.axes, s.flyers, s.log, ?_⟩
    have same : s.setPort p (s.port p) = s := by simp [State.setPort, State.port]
    rw [same, takeSwap, if_neg (by simp [pending])]
  | true =>
    cases drop : swapDrop s p with
    | none =>
      obtain ⟨A, F, shape, -⟩ := applySwap_eq p s
      exact ⟨_, .inr ⟨pending, .inr rfl⟩, A, F, s.log, (takeSwap_of_sound pending drop).trans shape⟩
    | some e => exact ⟨_, .inr ⟨pending, .inl rfl⟩, _, _, _, takeSwap_of_dropped pending drop⟩

theorem takeSwap_portsOnly (p : PortId) (s : State) : PortsOnly s (takeSwap p s) := by
  obtain ⟨y, -, A, F, L, shape⟩ := takeSwap_shape p s
  exact ⟨A, F, _, L, shape⟩

theorem port_takeSwap_ne (other : p ≠ q) (s : State) : (takeSwap p s).port q = s.port q := by
  obtain ⟨y, -, A, F, L, shape⟩ := takeSwap_shape p s
  rw [shape]
  exact State.port_setPort_ne s p q y other

theorem port_takeSwap_self (p : PortId) (s : State) : SwapTaken (s.port p) ((takeSwap p s).port p) := by
  obtain ⟨y, taken, A, F, L, shape⟩ := takeSwap_shape p s
  have port : (takeSwap p s).port p = y := by
    rw [shape]
    exact State.port_setPort_self s p y
  rwa [port]

theorem sendSetPoints_portsOnly (p : PortId) (s : State) : PortsOnly s (sendSetPoints p s) := by
  obtain ⟨A, shape⟩ := sendSetPoints_shape p s
  exact ⟨A, s.flyers, _, s.log, shape⟩

theorem port_sendSetPoints (p q : PortId) (s : State) :
    (sendSetPoints p s).port q = if p = q then (s.port p).sentOne (frameSent s (s.port p)) else s.port q := by
  obtain ⟨A, shape⟩ := sendSetPoints_shape p s
  rw [shape]
  exact State.port_setPort ..

theorem portFrame_portsOnly (p : PortId) (s : State) : PortsOnly s (portFrame p s) :=
  ((accountMiss_portsOnly p s).trans (takeSwap_portsOnly p _)).trans (sendSetPoints_portsOnly p _)

theorem port_portFrame_ne (other : p ≠ q) (s : State) : (portFrame p s).port q = s.port q := by
  rw [portFrame, port_sendSetPoints, if_neg other, port_takeSwap_ne other, port_accountMiss, if_neg other]

theorem counted_eq (x : Port) :
    x.counted = { x with
      miss := if x.last.isSome = true ∧ x.answered = false then min (x.miss + 1) 255 else x.miss
      missed := if x.last.isSome = true ∧ x.answered = false then x.missed + 1 else x.missed } := by
  unfold Port.counted
  by_cases lost : x.unanswered = true
  · rw [if_pos lost, if_pos (unanswered_iff.mp lost), if_pos (unanswered_iff.mp lost)]
    rfl
  · rw [if_neg lost, if_neg (mt unanswered_iff.mpr lost), if_neg (mt unanswered_iff.mpr lost)]

theorem portFramed_of_stages {x y : Port} (taken : SwapTaken x.counted y) (bytes : List Byte) :
    PortFramed x (y.sentOne bytes) := by
  rw [counted_eq] at taken
  rcases taken with ⟨calm, rfl⟩ | ⟨pending, rfl | rfl⟩
  · exact ⟨rfl, rfl, rfl, rfl, rfl, rfl, rfl, rfl, rfl, calm, fun _ => rfl, fun pending => absurd (calm.symm.trans pending) nofun⟩
  · exact ⟨rfl, rfl, rfl, rfl, rfl, rfl, rfl, rfl, rfl, rfl, fun _ => rfl, fun _ => .inl rfl⟩
  · exact ⟨rfl, rfl, rfl, rfl, rfl, rfl, rfl, rfl, rfl, rfl, fun calm => absurd (calm.symm.trans pending) nofun, fun _ => .inr rfl⟩

/-- A port takes its three stages (R137). -/
theorem port_portFrame_self (p : PortId) (s : State) : PortFramed (s.port p) ((portFrame p s).port p) := by
  have swap := port_takeSwap_self p (accountMiss p s)
  rw [port_accountMiss, if_pos rfl] at swap
  rw [portFrame, port_sendSetPoints, if_pos rfl]
  exact portFramed_of_stages swap _

/-! ## The six ports (R137, R151) -/

/-- Ports that each take the frame once (R137). -/
theorem forEach_portFrame (nodup : ps.Nodup) (s : State) :
    PortsOnly s (forEach ps portFrame s) ∧ ∀ p,
      (p ∈ ps → PortFramed (s.port p) ((forEach ps portFrame s).port p)) ∧
      (p ∉ ps → (forEach ps portFrame s).port p = s.port p) := by
  induction ps generalizing s with
  | nil => exact ⟨PortsOnly.refl s, fun p => ⟨fun mem => (List.not_mem_nil mem).elim, fun _ => rfl⟩⟩
  | cons q ps ih =>
    obtain ⟨once, nodup⟩ := List.nodup_cons.mp nodup
    obtain ⟨only, ports⟩ := ih nodup (portFrame q s)
    refine ⟨(portFrame_portsOnly q s).trans only, fun p => ⟨fun mem => ?_, fun outside => ?_⟩⟩
    · by_cases own : p = q
      · subst own
        rw [forEach_cons, (ports p).2 once]
        exact port_portFrame_self p s
      · have framed := (ports p).1 ((List.mem_cons.mp mem).resolve_left own)
        rwa [port_portFrame_ne (Ne.symm own)] at framed
    · simp only [List.mem_cons, not_or] at outside
      exact ((ports p).2 outside.2).trans (port_portFrame_ne (Ne.symm outside.1) s)

theorem insertPort_perm (rank : PortId → Nat) (p : PortId) (l : List PortId) : (insertPort rank p l).Perm (p :: l) := by
  induction l with
  | nil => exact List.Perm.refl _
  | cons q l ih =>
    unfold insertPort
    split
    · exact List.Perm.refl _
    · exact (ih.cons q).trans (List.Perm.swap p q l)

theorem portsByRank_perm (rank : PortId → Nat) : (portsByRank rank).Perm allPorts := by
  have all (l acc : List PortId) : (l.foldl (fun l p => insertPort rank p l) acc).Perm (l ++ acc) := by
    induction l generalizing acc with
    | nil => exact List.Perm.refl _
    | cons p l ih => exact (ih _).trans (((insertPort_perm rank p acc).append_left l).trans List.perm_middle)
  simpa [portsByRank] using all allPorts []

/-- Every port takes the frame once, in some order (R137). -/
theorem allPortFrames_eq (s : State) :
    ∃ (ps : List PortId) (n : Nat), ps.Perm allPorts ∧ allPortFrames s = forEach ps portFrame { s with free := n } := by
  unfold allPortFrames
  split
  · exact ⟨_, _, portsByRank_perm _, rfl⟩
  · exact ⟨_, s.free, List.Perm.refl _, rfl⟩

theorem nodup_allPorts : allPorts.Nodup := by decide

/-! ## The whole frame (R108, R137, R165) -/

/-- A change of axes, flyers and log, with the cut-off count and the free place as given. -/
theorem trajectoryAndCutOff_shape (s : State) :
    ∃ A F L n, trajectoryAndCutOff s =
      { s with axes := A, flyers := F, log := L, free := n,
               cutCount := if s.allStop.isSome then s.cutCount - 1 else s.cutCount } := by
  have lowered : lowerCutOff s = { s with cutCount := if s.allStop.isSome then s.cutCount - 1 else s.cutCount } := by
    unfold lowerCutOff
    split <;> rfl
  unfold trajectoryAndCutOff
  dsimp only
  rw [lowered]
  split
  · have early : Gentle _ (earlyCutOff s.free { s with
        cutCount := if s.allStop.isSome then s.cutCount - 1 else s.cutCount, free := s.free + 1 }) :=
      Gentle.forEach (cutOffFlyer_gentle _) _ _
    obtain ⟨A, F, L, shape⟩ := ((early.trans (trajectoryFrame_gentle _)).trans (cutOffExpiry_gentle _)).tame.frame
    exact ⟨A, F, L, s.free + 1, shape⟩
  · obtain ⟨A, F, L, shape⟩ := (trajectoryFrame_gentle
      { s with cutCount := if s.allStop.isSome then s.cutCount - 1 else s.cutCount }).tame.frame
    exact ⟨A, F, L, s.free, shape⟩

theorem exec_motionFrame (runs : running s = true) : exec .motionFrame s = .next (finish (motionFrame s)) :=
  whileRunning_of_running runs motionFrame

/-- The whole frame away from the expiry of the cut-off (R165). -/
theorem trajectoryAndCutOff_of_undue (undue : s.allStop = none ∨ s.cutCount ≠ 1) :
    trajectoryAndCutOff s =
      trajectoryFrame { s with cutCount := if s.allStop.isSome then s.cutCount - 1 else s.cutCount } := by
  have calm : cutOffDue s = false := by
    rcases undue with off | count
    · rw [cutOffDue, off]
      rfl
    · simp [cutOffDue, count]
  have lowered : lowerCutOff s = { s with cutCount := if s.allStop.isSome then s.cutCount - 1 else s.cutCount } := by
    unfold lowerCutOff
    split <;> rfl
  rw [trajectoryAndCutOff, calm, lowered]
  rfl

/-- What a motion frame leaves of the ports, of the cut-off count and of every other store (R137, R165). -/
theorem motionFrame_frame (s : State) :
    (∀ p, PortFramed (s.port p) ((finish (motionFrame s)).port p)) ∧
    ∃ A F P L G b n, finish (motionFrame s) =
      { s with cutCount := if s.allStop.isSome then s.cutCount - 1 else s.cutCount, axes := A, flyers := F, ports := P,
               log := L, grants := G, alarm := b, free := n } := by
  obtain ⟨A, F, L, n, moved⟩ := trajectoryAndCutOff_shape s
  obtain ⟨ps, m, perm, framed⟩ := allPortFrames_eq (trajectoryAndCutOff s)
  obtain ⟨only, ports⟩ := forEach_portFrame (perm.nodup_iff.mpr nodup_allPorts) { trajectoryAndCutOff s with free := m }
  obtain ⟨G, ended⟩ := finish_shape (motionFrame s)
  have port (p : PortId) := (ports p).1 (perm.mem_iff.mpr (mem_allPorts p))
  obtain ⟨A', F', P, L', shape⟩ := only
  have whole : motionFrame s = { s with
      cutCount := if s.allStop.isSome then s.cutCount - 1 else s.cutCount, axes := A', flyers := F', ports := P, log := L',
      free := m } := by
    rw [motionFrame, framed, shape, moved]
  rw [shape] at port
  rw [ended]
  refine ⟨fun p => ?_, A', F', P, L', G, alarmLine (motionFrame s), m, ?_⟩
  · have before : (trajectoryAndCutOff s).port p = s.port p := by rw [moved]; rfl
    have after : (motionFrame s).port p = P[p] := by rw [whole]; rfl
    have framed : PortFramed ((trajectoryAndCutOff s).port p) P[p] := port p
    rw [before] at framed
    exact (after ▸ framed :)
  · rw [whole]

/-- A flyer whose leader stands has its indications cleared and nothing else (R30, R108). -/
theorem flyer_trajectoryFrame_of_stands (sound : FormationsSound s) (stands : Stands (s.flyer (leaderOf s g)).state) :
    (trajectoryFrame s).flyer g = { s.flyer g with governed := false, atLimit := false } := by
  obtain ⟨F, flyer, frame⟩ := trajectoryFrame_eq s
  rw [frame, ← flyer g]
  refine flyer_forEach_advance (s := { s with flyers := F }) sound (fun f mem => mem_leaders.mp mem) (.inr ?_)
  have state := congrArg Flyer.state (flyer (leaderOf s g))
  exact (state ▸ stands :)

/-- One flyer that advances, with its formation, where every other leader stands (R118). -/
theorem trajectoryFrame_one (sound : FormationsSound s) (lead : isFollower s f = false)
    (stands : ∀ g, leaderOf s g ≠ f → Stands (s.flyer (leaderOf s g)).state) :
    ∃ F,
      let u : State := { s with flyers := F }
      (∀ g, u.flyer g = { s.flyer g with governed := false, atLimit := false }) ∧
      trajectoryFrame s = advanceFlyer u f u := by
  obtain ⟨F, flyer, frame⟩ := trajectoryFrame_eq s
  refine ⟨F, flyer, frame.trans (forEach_advance_one (s := { s with flyers := F }) sound
    (List.Nodup.filter _ nodup_allFlyers) (mem_leaders.mpr (isFollower_eq_false_iff.mp lead))
    (fun g mem => mem_leaders.mp mem) fun g mem other => ?_)⟩
  have own := mem_leaders.mp mem
  have state := congrArg Flyer.state (flyer g)
  have rest := stands g (by rwa [own])
  rw [own] at rest
  exact (state ▸ rest :)

/-- The cases of a flyer whose brake release count or dwell count runs (R99, R104, R127). -/
theorem advanceFlyer_counts (run : (s.flyer f).run = some r) :
    let x := s.flyer f
    let t := advanceFlyer before f s
    let released (a : AxisId) : Prop := ∃ fb, (s.axis a).feedback = some fb ∧ fb.brakeReleased = true
    let v := withRun f (releaseCounted r) s
    let w := withRun f { r with dwell := r.dwell - 1 } s
    (x.state = .releasing → 1 < r.brake → t = v) ∧
    (x.state = .releasing → r.brake ≤ 1 → (∀ g ∈ concernedFlyers s f, ∀ a ∈ membersOf s g, released a) → t = v) ∧
    (x.state = .releasing → r.brake ≤ 1 → ∀ fs g gs as a bs, concernedFlyers s f = fs ++ g :: gs →
      (∀ h ∈ fs, ∀ b ∈ membersOf s h, released b) → membersOf s g = as ++ a :: bs → (∀ b ∈ as, released b) → ¬released a →
      t = takeFault false .flyerStop { code := .brakeTimeout, axis := some a, station := none, detail := .none } g v) ∧
    (x.state = .cueRun .dwelling → t = if r.dwell ≤ 1 then runInterpreter f w else w) := by
  have members (g : FlyerId) := membersOf_withRun (s := s) f (releaseCounted r) g
  refine ⟨fun releasing more => ?_, fun releasing out off => ?_, fun releasing out fs g gs as a bs formation off split before held => ?_,
    fun dwelling => advanceFlyer_dwelling dwelling run⟩
  · exact (advanceFlyer_releasing releasing run).trans (if_neg (Nat.not_le.mpr more))
  · refine ((advanceFlyer_releasing releasing run).trans (if_pos out)).trans ?_
    exact brakeTimeoutOn_off (s := withRun f (releaseCounted r) s) fun h mem a member =>
      off h mem a (by rwa [members] at member)
  · refine ((advanceFlyer_releasing releasing run).trans (if_pos out)).trans ?_
    exact brakeTimeoutOn_held (s := withRun f (releaseCounted r) s) formation
      (fun h mem a member => off h mem a (by rwa [members] at member)) ((members g).trans split) before held

/-- An arrival as CUE_RUN handles it, on a segment with a dwell or without one (R103). -/
def cameTo (s : State) (f : FlyerId) (x : Segment) (w : State) : State :=
  if 0 < dwellOf s.dir x then
    setStates (concernedFlyers s f) (.cueRun .dwelling)
      (w.setFlyer f { w.flyer f with run := (w.flyer f).run.map fun r => { r with dwell := frames (dwellOf s.dir x) s.t } })
  else runInterpreter f w

theorem cameTo_tame (f : FlyerId) (x : Segment) (w : State) : Tame w (cameTo s f x w) :=
  ((modFlyer_tame f (fun y => { y with run := y.run.map fun r => { r with dwell := frames (dwellOf s.dir x) s.t } })
    (by intro _; rfl) w).trans (setStates_tame _ _ _)).ite (runInterpreter_gentle f w).tame

theorem handleArrival_of_tame {x : Segment} {w : State} (tame : Tame s w)
    (seg : ((w.flyer f).run.bind fun r => r.seg) = some x) : handleArrival f w = cameTo s f x w := by
  obtain ⟨_, _, _, shape⟩ := tame.frame
  have dir : w.dir = s.dir := by rw [shape]
  have time : w.t = s.t := by rw [shape]
  rw [handleArrival_eq seg, tame.concernedFlyers, dir, time]
  rfl

/-- What follows the commit of a path step (R54, R103, R117, R120, R122). -/
theorem finishPath_eq (sound : FormationsSound s) (apart : MembersApart s) (run : (s.flyer f).run = some r) (x : Segment)
    (k : PathStep) {w : State}
    (tested : separationFault (separationFailure before (memberPoints (concerned s f) k.point)) f (commitPath f x k s) = w) :
    finishPath before f x k s =
      if k.went.arrived = true then
        match (w.flyer f).state with
        | .cueRun _ => cameTo s f k.went.seg w
        | .holding =>
          (match ((cameTo s f k.went.seg w).flyer f).state with
           | .cueRun p => setStates (concernedFlyers s f) (.held p) (cameTo s f k.went.seg w)
           | _ => cameTo s f k.went.seg w)
        | .stopping .request => leaveRun f .parked w
        | .stopping _ => leaveRun f .faulted w
        | _ => w
      else if k.went.v = 0 then
        match (s.flyer f).state, (w.flyer f).state with
        | .cueRun _, _ => w
        | _, .holding => setStates (concernedFlyers s f) (.held .moving) w
        | _, .stopping .request => leaveRun f .parked w
        | _, .stopping _ => leaveRun f .faulted w
        | _, _ => w
      else w := by
  have tame : Tame s w := tested ▸ (commitPath_tame f x k s).trans (separationFault_gentle _ f _).tame
  have arrives (moving : (w.flyer f).state.onCue = true) : handleArrival f w = cameTo s f k.went.seg w := by
    refine handleArrival_of_tame tame ?_
    subst tested
    rw [separationFault_run (commitPath_committedTo sound apart run x k) moving]
    simp
  have held : holdOutcome f (cameTo s f k.went.seg w) =
      match ((cameTo s f k.went.seg w).flyer f).state with
      | .cueRun p => setStates (concernedFlyers s f) (.held p) (cameTo s f k.went.seg w)
      | _ => cameTo s f k.went.seg w := by
    rw [holdOutcome, (tame.trans (cameTo_tame f k.went.seg w)).concernedFlyers] <;> rfl
  rw [finishPath, tested]
  refine if_congr Iff.rfl ?_ (if_congr Iff.rfl ?_ rfl)
  · rw [arrivalOutcome]
    cases state : (w.flyer f).state with
    | cueRun => exact arrives (by rw [state]; rfl)
    | holding =>
      dsimp only
      rw [arrives (by rw [state]; rfl), held]
    | stopping why => cases why <;> rfl
    | _ => rfl
  · unfold restOutcome
    rw [tame.concernedFlyers]
    cases (w.flyer f).state with
    | stopping why => cases why <;> cases (s.flyer f).state <;> rfl
    | _ => cases (s.flyer f).state <;> rfl

/-- Settles O43: the frame's order, what stays within a formation, and the advance case by case. -/
theorem motionFrameIsTakenByEveryPort : Obligations.MotionFrameIsTakenByEveryPort := by
  unfold Obligations.MotionFrameIsTakenByEveryPort
  intro stands
  refine ⟨fun s runs => ⟨_, exec_motionFrame runs, ?_⟩, fun s g sound rest => flyer_trajectoryFrame_of_stands sound rest,
    fun s runs undue => ?_, fun s f sound lead rest => trajectoryFrame_one sound lead rest, trajectoryFrame_eq,
    fun before s f r run => advanceFlyer_counts run, ?_, ?_, ?_⟩
  · obtain ⟨ports, A, F, P, L, G, b, n, shape⟩ := motionFrame_frame s
    refine ⟨fun p => ?_, by rw [shape], by rw [shape]⟩
    obtain ⟨last, next, answered, sent, miss, missed, good, discarded, shadow, swap, stays, swaps⟩ := ports p
    exact ⟨last, next, answered, sent, miss, missed, good, discarded, shadow, swap, stays, swaps⟩
  · obtain ⟨ps, n, perm, framed⟩ := allPortFrames_eq (trajectoryAndCutOff s)
    refine ⟨ps, n, perm, (exec_motionFrame runs).trans ?_⟩
    rw [motionFrame, framed, trajectoryAndCutOff_of_undue undue]
    rfl
  · intro before s f why r here sound apart state run kind seg point points exceeded t
    have advanced : t = advanceStill before f here s :=
      (advanceFlyer_stopping_path state run kind).trans (advancePath_still run seg point)
    refine ⟨fun e fails => advanced.trans (advanceStill_fault fails), fun passes => ?_⟩
    have committed := stillCommitted_committedTo sound apart run
      (governingLine (lineSteps s (allLengths s points))).isSome here
    rw [governingLine_isSome, any_lineSteps] at committed
    refine ⟨_, committed, ?_⟩
    have went := advanced.trans (advanceStill_ok passes)
    rw [governingLine_isSome, any_lineSteps, state] at went
    obtain ⟨_, own⟩ := committed.own
    have found : ((stillCommitted exceeded f here s).flyer f).state = .stopping why := (congrArg Flyer.state own).trans state
    have stays : ((separationFault (separationFailure before points) f (stillCommitted exceeded f here s)).flyer f).state.onCue =
        false := Bool.eq_false_iff.mpr fun moving => by
      rw [separationFault_onCue moving, found] at moving
      cases moving
    refine (went.trans (restOutcome_stopping stays why)).trans ?_
    rw [separationFault_eq, found]
    cases separationFailure before points <;> cases why <;> rfl
  · intro before s f r g here sound apart run kind seg point state fs lim v step t
    have advanced : t = advanceOn before f r g here s :=
      (advanceFlyer_path run kind state).trans (advancePath_on run seg point)
    refine ⟨fun e fails => advanced.trans (advanceOn_fault fails), fun k steps => ⟨_, commitPath_committedTo sound apart run g k, ?_⟩⟩
    have went := advanced.trans ((advanceOn_ok steps).trans (finishPath_eq sound apart run g k rfl))
    obtain ⟨_, own⟩ := (commitPath_committedTo sound apart run g k).own
    rw [separationFault_eq, show ((commitPath f g k s).flyer f).state = (s.flyer f).state from (congrArg Flyer.state own :)] at went
    exact went
  · intro before s f rig r here sound apart has run kind point state fs v j0 j1 j t
    refine ⟨_, jogCommitted_committedTo sound apart run j, ?_⟩
    have went : advanceJog before f s = jogRest f j (jogCommitted j f s) := advanceJog_eq has run point
    obtain ⟨_, own⟩ := (jogCommitted_committedTo sound apart run j).own
    have found : ((jogCommitted j f s).flyer f).state = (s.flyer f).state := (congrArg Flyer.state own :)
    rcases state _ rfl with jogging | ⟨why, stopping⟩
    · have stays : jogRest f j (jogCommitted j f s) = jogCommitted j f s := by rw [jogRest, found, jogging]
      have held : ((jogCommitted j f s).flyer f).run = some { r with jogV := j.v } := by rw [own, if_pos rfl]
      have moved := (advanceFlyer_jogging (before := before) jogging).trans (congrArg (ageJog f) (went.trans stays))
      rw [ageJog, modRun_of_run _ held, aged_eq] at moved
      rw [jogging]
      exact moved
    · have moved := (advanceFlyer_stopping_jog stopping run kind).trans went
      rw [jogRest, found, stopping] at moved
      rw [stopping]
      cases why <;> exact moved

end Sys2Proof.Machine
end

section
/-! The cut-off expiry, by itself and on its motion frame (R108, R142, R151, R163, R165). -/

namespace Sys2Proof.Machine

variable {s t u v w c before : State} {f g h : FlyerId} {p : PortId} {ps : List PortId} {P : Flyer → Prop}

/-! ## What every flyer keeps -/

/-- Whatever of a property the flyers have, they keep. -/
def Each (P : Flyer → Prop) (s t : State) : Prop := ∀ f, P (s.flyer f) → P (t.flyer f)

theorem Each.refl (P : Flyer → Prop) (s : State) : Each P s s := fun _ => id

theorem Each.trans (first : Each P s t) (second : Each P t u) : Each P s u := fun f => second f ∘ first f

theorem Each.forEach {α : Type} {op : α → State → State} (each : ∀ x s, Each P s (op x s)) (l : List α) (s : State) :
    Each P s (forEach l op s) :=
  forEach_rel (Each P) (Each.refl P) (fun _ _ _ => Each.trans) op l (fun x _ => each x) s

theorem Each.ite {q : Prop} [Decidable q] (first : Each P s t) (second : Each P s u) :
    Each P s (if q then t else u) := by
  split <;> assumption

theorem Each.of_flyer (same : ∀ f, t.flyer f = s.flyer f) : Each P s t := fun f has => by rwa [same f]

/-- A property that the state of a flyer and the absence of a run decide. -/
def Steady (P : Flyer → Prop) : Prop := ∀ x y : Flyer, y.state = x.state → (x.run = none → y.run = none) → P x → P y

theorem modFlyer_each {k : Flyer → Flyer} (keeps : ∀ x, P x → P (k x)) (f : FlyerId) (s : State) : Each P s (modFlyer f k s) :=
  fun g has => by
    rw [flyer_modFlyer_eq]
    split
    · next same => exact keeps _ (same ▸ has)
    · exact has

theorem modRun_each (steady : Steady P) (f : FlyerId) (k : Run → Run) (s : State) : Each P s (modRun f k s) :=
  modFlyer_each (k := fun x => { x with run := x.run.map k })
    (fun x => steady x { x with run := x.run.map k } rfl fun none => by rw [none]; rfl) f s

theorem commitPoints_each (steady : Steady P) (pts : List (FlyerId × Vec3)) (governed atLimit : Bool) (s : State) :
    Each P s (commitPoints pts governed atLimit s) := by
  refine Each.trans (Each.forEach (op := fun (l : AxisId × AxisParams × Int) => modAxis l.1 (commitAxis l.2.1 l.2.2))
      (fun _ _ => Each.of_flyer fun _ => rfl) _ s)
    (Each.forEach (fun (e : FlyerId × Vec3) t => modFlyer_each (fun x => ?_) e.1 t) pts _)
  exact steady x { x with point := some e.2, governed := governed, atLimit := atLimit } rfl id

theorem commitPath_each (steady : Steady P) (f : FlyerId) (x : Segment) (k : PathStep) (s : State) :
    Each P s (commitPath f x k s) :=
  ((commitPoints_each steady _ _ _ s).trans (modRun_each steady f _ _)).trans
    (Each.forEach (fun g t => modFlyer_each (k := takeMarks k.went.marks)
      (fun x => steady x (takeMarks k.went.marks x) rfl id) g t) _ _)

/-! ## The states that all-stop leaves possible (R163) -/

/-- A state that all-stop leaves possible, and no stop by request. -/
def Quiet (x : Flyer) : Prop := x.state.calm = true ∧ x.state ≠ .stopping .request

/-- FAULTED, and not in a run any more. -/
def Ended (x : Flyer) : Prop := x.state = .faulted ∧ x.run = none

/-- FAULTED without a run, or in a stop that ends so (R122, R135). -/
def Doomed (x : Flyer) : Prop := Ended x ∨ x.state = .stopping .fault ∨ x.state = .stopping .allStop

/-- At rest or FAULTED. -/
def Resting (x : Flyer) : Prop := x.state.calm = true ∧ x.state.isStopping = false

/-- What a run that ends in FAULTED and a dead stop keep. -/
structure Lasting (P : Flyer → Prop) : Prop where
  steady : Steady P
  ended : ∀ x, Ended x → P x
  dead : ∀ clears d ready x, P x → P (struck false .flyerDead clears d ready x)

theorem quiet_steady : Steady Quiet := fun _ _ state _ ⟨calm, other⟩ => ⟨state ▸ calm, state ▸ other⟩

theorem doomed_steady : Steady Doomed := fun _ _ state run doomed =>
  doomed.imp (fun ⟨faulted, over_⟩ => ⟨state.trans faulted, run over_⟩) (Or.imp state.trans state.trans)

theorem state_dropped (clears : Bool) (x : Flyer) :
    (if clears = true then dropLocated x else x).state = x.state ∧ (if clears = true then dropLocated x else x).run = x.run := by
  split <;> exact ⟨rfl, rfl⟩

/-- A dead stop leaves a flyer that all-stop leaves possible as it is, or FAULTED without a run (R159). -/
theorem struck_dead (clears : Bool) (d : Cause) (ready : Bool) {x : Flyer} (calm : x.state.calm = true) :
    ((struck false .flyerDead clears d ready x).state = x.state ∧ (struck false .flyerDead clears d ready x).run = x.run) ∨
      Ended (struck false .flyerDead clears d ready x) := by
  cases state : x.state with
  | undefined | faulted =>
    refine .inl ?_
    simp only [struck, state]
    exact state ▸ state_dropped clears x
  | unready | unlocated | parked =>
    refine .inr ?_
    simp only [struck, state]
    exact ⟨rfl, rfl⟩
  | stopping why =>
    refine .inr ?_
    cases why <;> simp only [struck, state, if_pos] <;> exact ⟨rfl, rfl⟩
  | releasing | cueRun | holding | held | jogging =>
    rw [state] at calm
    cases calm

theorem quiet_lasting : Lasting Quiet where
  steady := quiet_steady
  ended x ended := ⟨by rw [ended.1]; rfl, by rw [ended.1]; exact nofun⟩
  dead clears d ready x quiet := by
    rcases struck_dead clears d ready quiet.1 with ⟨state, run⟩ | ended
    · exact quiet_steady _ _ state (fun none => run.trans none) quiet
    · exact ⟨by rw [ended.1]; rfl, by rw [ended.1]; exact nofun⟩

theorem Doomed.calm {x : Flyer} (doomed : Doomed x) : x.state.calm = true := by
  rcases doomed with ⟨state, -⟩ | state | state <;> rw [state] <;> rfl

theorem doomed_lasting : Lasting Doomed where
  steady := doomed_steady
  ended _ := .inl
  dead clears d ready x doomed := by
    rcases struck_dead clears d ready doomed.calm with ⟨state, run⟩ | ended
    · exact doomed_steady _ _ state (fun none => run.trans none) doomed
    · exact .inl ended

/-! ## The frame advance while all-stop is active (R163) -/

theorem leaveRun_faulted_each (lasting : Lasting P) (f : FlyerId) (s : State) : Each P s (leaveRun f .faulted s) :=
  fun g has => by
    rw [flyer_leaveRun]
    split
    · exact lasting.ended _ ⟨rfl, rfl⟩
    · exact has

theorem takeFault_dead_each (lasting : Lasting P) (d : Cause) (f : FlyerId) (s : State) :
    Each P s (takeFault false .flyerDead d f s) := by
  rw [takeFault_eq]
  refine Each.forEach (fun e t g has => ?_) _ s
  rw [flyer_strike]
  split
  · next same => exact lasting.dead _ _ _ _ (same ▸ has)
  · exact has

theorem endStop_each (lasting : Lasting P) {why : StopReason} (other : why ≠ .request) (f : FlyerId) (s : State) :
    Each P s (endStop f why s) := by
  cases why with
  | request => exact absurd rfl other
  | fault | allStop => exact leaveRun_faulted_each lasting f s

theorem state_steady (st : FlyerState) : Steady fun x => x.state = st := fun _ _ same _ => same.trans

/-- The state that a flyer is in after a commit and the separation test, on a stop that no request began (R54). -/
theorem separationFault_of_stopping {why : StopReason} {bad : Option (FlyerId × FlyerId)} (other : why ≠ .request)
    (state : (s.flyer f).state = .stopping why) : separationFault bad f s = s := by
  rw [separationFault_eq, state]
  cases bad with
  | none => rfl
  | some e =>
    cases why with
    | request => exact absurd rfl other
    | fault | allStop => rfl

theorem jogCommitted_each (steady : Steady P) (j : JogStep) (f : FlyerId) (s : State) : Each P s (jogCommitted j f s) :=
  (commitPoints_each steady _ _ _ s).trans (modRun_each steady f _ _)

theorem stillCommitted_each (steady : Steady P) (took : Bool) (f : FlyerId) (here : Vec3) (s : State) :
    Each P s (stillCommitted took f here s) :=
  (commitPoints_each steady _ _ _ s).trans (modRun_each steady f _ _)

theorem advanceJog_each (lasting : Lasting P) {why : StopReason} (other : why ≠ .request)
    (state : (s.flyer f).state = .stopping why) : Each P s (advanceJog before f s) := by
  unfold advanceJog
  split
  · next rig r here _ _ _ =>
    change Each P s (jogRest f (jogStepOf before s f rig r here) (jogCommitted (jogStepOf before s f rig r here) f s))
    have committed := jogCommitted_each lasting.steady (jogStepOf before s f rig r here) f s
    have kept := jogCommitted_each (state_steady (.stopping why)) (jogStepOf before s f rig r here) f s f state
    dsimp only at kept
    rw [jogRest, kept]
    exact committed.trans ((endStop_each lasting other f _).ite (Each.refl P _))
  · exact Each.refl P s

theorem restOutcome_each (lasting : Lasting P) {why : StopReason} (other : why ≠ .request)
    (state : (s.flyer f).state = .stopping why) (found : FlyerState) : Each P s (restOutcome found f s) := by
  unfold restOutcome
  rw [state]
  cases found with
  | cueRun => exact Each.refl P s
  | _ => exact endStop_each lasting other f s

theorem arrivalOutcome_each (lasting : Lasting P) {why : StopReason} (other : why ≠ .request)
    (state : (s.flyer f).state = .stopping why) : Each P s (arrivalOutcome f s) := by
  rw [arrivalOutcome, state]
  exact endStop_each lasting other f s

theorem finishPath_each (lasting : Lasting P) {why : StopReason} (other : why ≠ .request)
    (state : (s.flyer f).state = .stopping why) (x : Segment) (k : PathStep) : Each P s (finishPath before f x k s) := by
  have kept : ((commitPath f x k s).flyer f).state = .stopping why := commitPath_each (state_steady _) f x k s f state
  have committed := commitPath_each lasting.steady f x k s
  rw [finishPath, separationFault_of_stopping other kept]
  exact (committed.trans (arrivalOutcome_each lasting other kept)).ite
    ((committed.trans (restOutcome_each lasting other kept _)).ite committed)

theorem advancePath_each (lasting : Lasting P) {why : StopReason} (other : why ≠ .request)
    (state : (s.flyer f).state = .stopping why) : Each P s (advancePath before f s) := by
  unfold advancePath
  split
  · split
    · unfold advanceOn
      dsimp only
      split
      · exact takeFault_dead_each lasting _ _ s
      · exact finishPath_each lasting other state _ _
    · next here _ _ _ _ =>
      cases fails : geometryFault s (memberPoints (concerned s f) here) with
      | some e =>
        rw [advanceStill_fault fails]
        exact takeFault_dead_each lasting _ _ s
      | none =>
        have kept := stillCommitted_each (state_steady (.stopping why))
          (governingLine (lineSteps s (allLengths s (memberPoints (concerned s f) here)))).isSome f here s f state
        rw [advanceStill_ok fails, separationFault_of_stopping other kept]
        exact (stillCommitted_each lasting.steady _ f here s).trans (restOutcome_each lasting other kept _)
  · exact Each.refl P s

/-- The advance of a flyer in a stop that no request began (R122, R135). -/
theorem advanceFlyer_each (lasting : Lasting P) (quiet : Quiet (s.flyer f)) : Each P s (advanceFlyer before f s) := by
  cases state : (s.flyer f).state with
  | stopping why =>
    have other : why ≠ .request := fun same => quiet.2 (by rw [state, same])
    rw [advanceFlyer, state]
    exact (advanceJog_each lasting other state).ite (advancePath_each lasting other state)
  | undefined | unready | unlocated | parked | faulted =>
    rw [advanceFlyer_of_stands (by rw [state]; trivial)]
    exact Each.refl P s
  | releasing | cueRun | holding | held | jogging =>
    have calm := quiet.1
    rw [state] at calm
    cases calm

/-- A frame with every flyer in a state that all-stop leaves possible, and none in a stop by request. -/
theorem trajectoryFrame_each (lasting : Lasting P) (quiet : ∀ f, Quiet (s.flyer f)) : Each P s (trajectoryFrame s) := by
  obtain ⟨F, flyer, frame⟩ := trajectoryFrame_eq s
  have cleared {Q : Flyer → Prop} (steady : Steady Q) : Each Q s { s with flyers := F } := fun f has => by
    rw [flyer f]
    exact steady (s.flyer f) _ rfl id has
  rw [frame]
  have all (fs : List FlyerId) (before t : State) (quiet : ∀ f, Quiet (t.flyer f)) :
      Each P t (forEach fs (advanceFlyer before) t) := by
    induction fs generalizing t with
    | nil => exact Each.refl P t
    | cons f fs ih =>
      exact (advanceFlyer_each lasting (quiet f)).trans
        (ih _ fun g => advanceFlyer_each quiet_lasting (quiet f) g (quiet g))
  exact (cleared lasting.steady).trans (all _ _ _ fun f => cleared quiet_steady f (quiet f))

/-! ## The cut-off expiry (R165) -/

/-- What the cut-off expiry makes of a flyer (R165). -/
def cutOffMade (x : Flyer) : Flyer :=
  if x.state.isStopping = true then { x with state := .faulted, located := false, point := none, run := none } else x

/-- The entry that the cut-off expiry leaves for a flyer (R165). -/
def cutOffEntry (clock : Counter) (speed : FlyerId → Int) (f : FlyerId) : LogEntry :=
  { time := clock, code := .cutoff, cls := .allStop, flyer := some f, axis := none, station := none, port := none,
    detail := .number (speed f) }

theorem flyer_cutOffFlyer (speed : FlyerId → Int) (f : FlyerId) (s : State) (g : FlyerId) :
    (cutOffFlyer speed f s).flyer g = if g = f then cutOffMade (s.flyer f) else s.flyer g := by
  unfold cutOffFlyer cutOffMade
  split
  · dsimp only
    rw [flyer_disengage, flyer_modFlyer_eq]
    rfl
  · split
    · next same => rw [same]
    · rfl

theorem cutOffFlyer_releases (speed : FlyerId → Int) (f : FlyerId) (s : State) :
    Releases (fun a => a ∈ membersOf s f ∧ (s.flyer f).state.isStopping = true) s (cutOffFlyer speed f s) := by
  unfold cutOffFlyer
  split
  · next stopping =>
    refine (disengage_releases f _ : Releases _ _ _).congr fun a => ?_
    rw [and_iff_left stopping, membersOf_of_defn ((modFlyer_tame f _ (by intro _; rfl) _).defn f)]
    rfl
  · next calm => exact (Releases.of_axes fun _ => rfl).congr fun a => by simp [calm]

theorem cutOffFlyer_faultOnly (speed : FlyerId → Int) (f : FlyerId) (s : State) : FaultOnly s (cutOffFlyer speed f s) :=
  (cutOffFlyer_gentle speed f s).tame.frame

theorem log_cutOffFlyer (speed : FlyerId → Int) (f : FlyerId) (s : State) :
    (cutOffFlyer speed f s).log =
      if (s.flyer f).state.isStopping = true then logAfter s.logMode s.log (cutOffEntry s.clock speed f) else s.log := by
  unfold cutOffFlyer
  split
  · dsimp only
    obtain ⟨A, F, shape⟩ := (modFlyer_rigOnly f (fun x => { x with state := .faulted, located := false, point := none, run := none })
      (logCause { code := .cutoff, axis := none, station := none, detail := .number (speed f) } .allStop (some f) s)).trans
        (disengage_rigOnly f _)
    rw [shape]
    rfl
  · rfl

theorem log_forEach_cutOffFlyer (speed : FlyerId → Int) {fs : List FlyerId} (nodup : fs.Nodup) (s : State) :
    (forEach fs (cutOffFlyer speed) s).log =
      (fs.filter fun f => (s.flyer f).state.isStopping).foldl
        (fun l f => logAfter s.logMode l (cutOffEntry s.clock speed f)) s.log := by
  induction fs generalizing s with
  | nil => rfl
  | cons f fs ih =>
    obtain ⟨once, nodup⟩ := List.nodup_cons.mp nodup
    obtain ⟨mode, clock⟩ := (cutOffFlyer_faultOnly speed f s).modeClock
    have later : (fs.filter fun g => ((cutOffFlyer speed f s).flyer g).state.isStopping) =
        fs.filter fun g => (s.flyer g).state.isStopping :=
      List.filter_congr fun g mem => by
        rw [flyer_cutOffFlyer, if_neg fun (same : g = f) => once (by rwa [← same])]
    rw [forEach_cons, ih nodup, later, mode, clock, log_cutOffFlyer]
    by_cases stopping : (s.flyer f).state.isStopping = true
    · rw [List.filter_cons_of_pos (p := fun g => (s.flyer g).state.isStopping) stopping, if_pos stopping, List.foldl_cons]
    · rw [List.filter_cons_of_neg (p := fun g => (s.flyer g).state.isStopping) stopping, if_neg stopping]

/-- The cut-off expiry on the flyers that it reaches (R165). -/
def CutOffDone (who : FlyerId → Bool) (s v : State) : Prop :=
  ∃ A F L,
    v = { s with axes := A, flyers := F, log := L } ∧
    (∀ f, v.flyer f =
      if (s.flyer f).state.isStopping = true ∧ who f = true then
        { s.flyer f with state := .faulted, located := false, point := none, run := none }
      else s.flyer f) ∧
    (∀ a, v.axis a =
      if (s.axis a).state = .engaged ∧ ∃ f, a ∈ membersOf s f ∧ (s.flyer f).state.isStopping = true ∧ who f = true then
        { s.axis a with state := .ready, committed := none }
      else s.axis a) ∧
    L = (allFlyers.filter fun f => (s.flyer f).state.isStopping && who f).foldl
      (fun l f => logAfter s.logMode l (cutOffEntry s.clock (speedOf s) f)) s.log

theorem forEach_cutOffFlyer (who : FlyerId → Bool) (s : State) :
    CutOffDone who s (forEach (allFlyers.filter who) (cutOffFlyer (speedOf s)) s) := by
  have nodup : (allFlyers.filter who).Nodup := List.Nodup.filter _ nodup_allFlyers
  obtain ⟨flyers, released⟩ := forEach_each (op := cutOffFlyer (speedOf s)) (fun _ => cutOffMade)
    (fun x => x.state.isStopping = true) (flyer_cutOffFlyer (speedOf s))
    (fun _ x => by unfold cutOffMade; split <;> rfl) (cutOffFlyer_releases (speedOf s)) nodup s
  have log := log_forEach_cutOffFlyer (speedOf s) nodup s
  obtain ⟨A, F, L, shape⟩ := FaultOnly.forEach (cutOffFlyer_faultOnly (speedOf s)) (allFlyers.filter who) s
  refine ⟨A, F, L, shape, fun f => (flyers f).trans ?_, fun a => ?_, ?_⟩
  · by_cases reached : who f = true
    · rw [if_pos (List.mem_filter.mpr ⟨mem_allFlyers f, reached⟩)]
      simp only [reached, and_true]
      rfl
    · rw [if_neg fun mem => reached (List.mem_filter.mp mem).2, if_neg fun both => reached both.2]
  · have all := released.congr fun b =>
      show _ ↔ ∃ f, b ∈ membersOf s f ∧ (s.flyer f).state.isStopping = true ∧ who f = true by
        simp only [List.mem_filter, mem_allFlyers, true_and]
        exact exists_congr fun f => by rw [and_comm, and_assoc]
    exact all.axis a
  · rw [shape, List.filter_filter] at log
    exact log

theorem cutOffExpiry_done (s : State) : CutOffDone (fun _ => true) s (cutOffExpiry s) := by
  have all := forEach_cutOffFlyer (fun _ => true) s
  rwa [List.filter_true] at all

theorem CutOffDone.flyer {who : FlyerId → Bool} (done : CutOffDone who s v) (f : FlyerId) :
    v.flyer f =
      if (s.flyer f).state.isStopping = true ∧ who f = true then
        { s.flyer f with state := .faulted, located := false, point := none, run := none }
      else s.flyer f := by
  obtain ⟨_, _, _, -, flyer, -⟩ := done
  exact flyer f

/-- After a cut-off that reaches every flyer, none is in STOPPING (R165). -/
theorem CutOffDone.none_stopping (done : CutOffDone (fun _ => true) s v) (f : FlyerId) :
    (v.flyer f).state.isStopping = false := by
  rw [done.flyer f]
  split
  · rfl
  · next calm => exact Bool.eq_false_iff.mpr fun stopping => calm ⟨stopping, rfl⟩

theorem CutOffDone.stays {who : FlyerId → Bool} (done : CutOffDone who s v) (calm : (s.flyer f).state.isStopping = false) :
    v.flyer f = s.flyer f := by
  rw [done.flyer f, if_neg (by simp [calm])]

theorem CutOffDone.calm {who : FlyerId → Bool} (done : CutOffDone who s v) (calm : ∀ g, (s.flyer g).state.calm = true)
    (f : FlyerId) : (v.flyer f).state.calm = true := by
  rw [done.flyer f]
  split
  · rfl
  · exact calm f

theorem CutOffDone.cause {who : FlyerId → Bool} (done : CutOffDone who s v) (f : FlyerId) :
    (v.flyer f).cause = (s.flyer f).cause := by
  rw [done.flyer f]
  split <;> rfl

theorem CutOffDone.leaderOf {who : FlyerId → Bool} (done : CutOffDone who s v) (f : FlyerId) :
    leaderOf v f = leaderOf s f := by
  obtain ⟨_, _, _, rfl, -⟩ := done
  rfl

theorem CutOffDone.formationsSound {who : FlyerId → Bool} (done : CutOffDone who s v) (sound : FormationsSound s) :
    FormationsSound v := by
  obtain ⟨_, _, _, rfl, -⟩ := done
  exact sound

/-! ## The ports after the cut-off (R137, R142, R151) -/

/-- What the faults and the readiness rule of a port's stages keep. -/
structure Portable (P : Flyer → Prop) : Prop where
  fault : ∀ code d a s, Each P s (axisFault code d a s)
  ready : ∀ g s, Each P s (readiness g s)

theorem axisFault_each (keeps : ∀ via cls clears d ready x, P x → P (struck via cls clears d ready x)) (code : FaultCode)
    (d : Detail) (a : AxisId) (s : State) : Each P s (axisFault code d a s) := by
  unfold axisFault
  dsimp only
  split
  · exact Each.of_flyer fun _ => rfl
  · split
    · exact Each.of_flyer fun _ => rfl
    · have marked : Each P s
          (modAxis a (fun x => { x with state := .faulted, cause := some code, slack := 0, committed := none }) s) :=
        Each.of_flyer fun _ => rfl
      refine marked.trans ?_
      rw [takeFault_eq]
      refine Each.forEach (fun e t g has => ?_) _ _
      rw [flyer_strike]
      split
      · next same => exact keeps _ _ _ _ _ _ (same ▸ has)
      · exact has

theorem readiness_each (keeps : ∀ ready x, P x → P { x with state := readyState ready x.located x.state }) (g : FlyerId)
    (s : State) : Each P s (readiness g s) := by
  rw [readiness_eq]
  exact modFlyer_each (fun x => keeps _ x) g s

theorem cause_portable (c : Cause) : Portable fun x => x.cause = some c where
  fault code d a s f := ((axisFault_gentle code d a s).flyers f).cause c
  ready g s f := ((readiness_gentle g s).flyers f).cause c

theorem ended_portable : Portable Ended where
  fault := axisFault_each fun via cls clears d ready x ended => by
    obtain ⟨state, run⟩ := state_dropped clears x
    simp only [struck, ended.1]
    exact ⟨state.trans ended.1, run.trans ended.2⟩
  ready := readiness_each fun ready x ended => by
    refine ⟨?_, ended.2⟩
    simp only [ended.1]
    rfl

theorem resting_ready (ready located : Bool) (x : Flyer) :
    Resting { x with state := readyState ready located .unready } := by
  cases ready <;> cases located <;> exact ⟨rfl, rfl⟩

theorem resting_portable : Portable Resting where
  fault := axisFault_each fun via cls clears d ready x resting => by
    have dropped := (state_dropped clears x).1
    cases state : x.state with
    | undefined | faulted =>
      simp only [struck, state]
      exact ⟨by rw [dropped, state]; rfl, by rw [dropped, state]; rfl⟩
    | unready | unlocated | parked =>
      simp only [struck, state]
      split
      · exact resting_ready ready _ _
      · exact ⟨rfl, rfl⟩
    | releasing | cueRun | holding | held | jogging =>
      have calm := resting.1
      rw [state] at calm
      cases calm
    | stopping why =>
      have still := resting.2
      rw [state] at still
      cases still
  ready := readiness_each fun ready x resting => by
    cases state : x.state with
    | unready | unlocated | parked => exact resting_ready ready x.located x
    | _ =>
      simp only [readyState]
      exact state ▸ resting

theorem loseSlot_each (portable : Portable P) (p : PortId) (o : Option AxisId) (s : State) : Each P s (loseSlot p o s) := by
  cases o with
  | none => exact Each.refl P s
  | some a => exact portable.fault _ _ a s

theorem accountMiss_each (portable : Portable P) (p : PortId) (s : State) : Each P s (accountMiss p s) := by
  have missed : Each P s (modPort p Port.missedOne s) := Each.of_flyer fun _ => rfl
  unfold accountMiss takeMiss
  refine Each.ite (Each.ite ?_ missed) (Each.refl P s)
  rw [feedbackLostFaults_eq]
  exact (missed.trans (loseSlot_each portable p _ _)).trans (loseSlot_each portable p _ _)

theorem applySwap_each (portable : Portable P) (p : PortId) (s : State) : Each P s (applySwap p s) := by
  have swapped : Each P s (modPort p (fun x => { x with active := x.shadow, swap := false }) s) := Each.of_flyer fun _ => rfl
  have remapped (st : AxisState) (l : List AxisId) (t : State) :
      Each P t (forEach l (fun a => modAxis a (remapAxis st)) t) := 
    Each.forEach (op := fun a => modAxis a (remapAxis st)) (fun _ _ => Each.of_flyer fun _ => rfl) l t
  exact ((swapped.trans (remapped _ _ _)).trans (remapped _ _ _)).trans (Each.forEach portable.ready _ _)

theorem takeSwap_each (portable : Portable P) (p : PortId) (s : State) : Each P s (takeSwap p s) := by
  unfold takeSwap
  refine Each.ite ?_ (Each.refl P s)
  split
  · exact Each.of_flyer fun _ => rfl
  · exact applySwap_each portable p s

theorem flyer_sendSetPoints (p : PortId) (s : State) (f : FlyerId) : (sendSetPoints p s).flyer f = s.flyer f := by
  obtain ⟨A, shape⟩ := sendSetPoints_shape p s
  rw [shape]
  rfl

theorem portFrame_each (portable : Portable P) (p : PortId) (s : State) : Each P s (portFrame p s) :=
  ((accountMiss_each portable p s).trans (takeSwap_each portable p _)).trans (Each.of_flyer (flyer_sendSetPoints p _))

/-- The third miss of a port is due on the coming frame (R142). -/
def thirdDue (x : Port) : Prop := x.last.isSome = true ∧ x.answered = false ∧ x.miss = 2

/-- A port with no swap pending and no third miss due acts on no flyer (R142, R151). -/
theorem flyers_portFrame (calm : (s.port p).swap = false) (undue : ¬thirdDue (s.port p)) :
    (portFrame p s).flyers = s.flyers := by
  have counted : (accountMiss p s).flyers = s.flyers := by
    unfold accountMiss takeMiss
    split
    · next lost =>
      have miss : (s.port p).miss ≠ 2 := fun two => undue (thirdMiss_iff.mp (by simp [lost, two]))
      rw [if_neg miss]
      rfl
    · rfl
  have swap : ((accountMiss p s).port p).swap = false := by
    rw [port_accountMiss, if_pos rfl, counted_eq]
    exact calm
  have stays : takeSwap p (accountMiss p s) = accountMiss p s := by
    rw [takeSwap, if_neg (by simp [swap])]
  obtain ⟨A, shape⟩ := sendSetPoints_shape p (accountMiss p s)
  rw [portFrame, stays, shape]
  exact counted

theorem flyers_forEach_portFrame (nodup : ps.Nodup) (calm : ∀ p ∈ ps, (s.port p).swap = false ∧ ¬thirdDue (s.port p)) :
    (forEach ps portFrame s).flyers = s.flyers := by
  induction ps generalizing s with
  | nil => rfl
  | cons p ps ih =>
    obtain ⟨once, nodup⟩ := List.nodup_cons.mp nodup
    obtain ⟨swap, undue⟩ := calm p List.mem_cons_self
    rw [forEach_cons, ih nodup, flyers_portFrame swap undue]
    intro q mem
    rw [port_portFrame_ne fun (same : p = q) => once (by rwa [same])]
    exact calm q (List.mem_cons_of_mem p mem)

/-! ## The motion frame of the expiry (R165) -/

theorem flyer_finish (s : State) (f : FlyerId) : (finish s).flyer f = s.flyer f := by
  obtain ⟨G, shape⟩ := finish_shape s
  rw [shape]
  rfl

theorem cutOffDue_iff : cutOffDue s = true ↔ s.allStop ≠ none ∧ s.cutCount = 1 := by
  rw [cutOffDue, Bool.and_eq_true, decide_eq_true_iff, ← Option.ne_none_iff_isSome]

theorem lowerCutOff_of_due (active : s.allStop ≠ none) (last : s.cutCount = 1) : lowerCutOff s = { s with cutCount := 0 } := by
  rw [lowerCutOff, if_pos (Option.ne_none_iff_isSome.mp active), last]

theorem exec_cutoff (runs : running s = true) :
    exec .cutoff s = .next (finish (if cutOffDue s then cutOffExpiry (lowerCutOff s) else s)) :=
  whileRunning_of_running runs fun t => if cutOffDue t then cutOffExpiry (lowerCutOff t) else t

/-- The commits of the frame of the expiry: some formations reached before, the rest after (R165). -/
theorem trajectoryAndCutOff_of_due (active : s.allStop ≠ none) (last : s.cutCount = 1) :
    trajectoryAndCutOff s =
      cutOffExpiry (trajectoryFrame (earlyCutOff s.free { s with cutCount := 0, free := s.free + 1 })) := by
  rw [trajectoryAndCutOff, cutOffDue_iff.mpr ⟨active, last⟩, lowerCutOff_of_due active last]
  rfl

/-- A flyer at rest stands through the frame of the expiry, with its indications cleared (R108, R165). -/
theorem stands_of_quiet (calm : (s.flyer f).state.calm = true) (still : (s.flyer f).state.isStopping = false) :
    Stands (s.flyer f).state := by
  cases state : (s.flyer f).state with
  | undefined | unready | unlocated | parked | faulted => trivial
  | stopping => rw [state] at still; cases still
  | releasing | cueRun | holding | held | jogging => rw [state] at calm; cases calm

/-- What the expiry, before and after the advance, makes of a flyer that it finds in a stop that no request began. -/
theorem doomed_of_cutOff {who : FlyerId → Bool} (done : CutOffDone who s u) (quiet : ∀ f, Quiet (s.flyer f)) :
    (∀ f, Quiet (u.flyer f)) ∧ ∀ f, (s.flyer f).state.isStopping = true → Doomed (u.flyer f) := by
  refine ⟨fun f => ?_, fun f stopping => ?_⟩
  · rw [done.flyer f]
    split
    · exact ⟨rfl, nofun⟩
    · exact quiet f
  · rw [done.flyer f]
    split
    · exact .inl ⟨rfl, rfl⟩
    · cases state : (s.flyer f).state with
      | stopping why =>
        cases why with
        | request => exact absurd state (quiet f).2
        | fault => exact .inr (.inl state)
        | allStop => exact .inr (.inr state)
      | _ => rw [state] at stopping; cases stopping

theorem ended_of_doomed (done : CutOffDone (fun _ => true) w v) (doomed : Doomed (w.flyer f)) : Ended (v.flyer f) := by
  rw [done.flyer f]
  rcases doomed with ⟨state, run⟩ | state | state
  · rw [if_neg (by simp [state, FlyerState.isStopping])]
    exact ⟨state, run⟩
  · rw [if_pos (by simp [state, FlyerState.isStopping])]
    exact ⟨rfl, rfl⟩
  · rw [if_pos (by simp [state, FlyerState.isStopping])]
    exact ⟨rfl, rfl⟩

/-- The motion frame of the expiry: some formations reached before the advance, the rest after, and then the ports
(R108, R137, R165). -/
theorem motionFrame_of_due (active : s.allStop ≠ none) (last : s.cutCount = 1) :
    ∃ (ps : List PortId) (n : Nat) (u : State), ps.Perm allPorts ∧
      CutOffDone (fun f => Config.cutoffFirst s.free (leaderOf s f)) { s with cutCount := 0, free := s.free + 1 } u ∧
      motionFrame s = forEach ps portFrame { cutOffExpiry (trajectoryFrame u) with free := n } ∧
      trajectoryAndCutOff s = cutOffExpiry (trajectoryFrame u) := by
  have early : CutOffDone (fun f => Config.cutoffFirst s.free (leaderOf s f)) { s with cutCount := 0, free := s.free + 1 }
      (earlyCutOff s.free { s with cutCount := 0, free := s.free + 1 }) := forEach_cutOffFlyer _ _
  have commits := trajectoryAndCutOff_of_due active last
  obtain ⟨u, first⟩ : ∃ u, earlyCutOff s.free { s with cutCount := 0, free := s.free + 1 } = u := ⟨_, rfl⟩
  rw [first] at early commits
  obtain ⟨ps, n, perm, framed⟩ := allPortFrames_eq (cutOffExpiry (trajectoryFrame u))
  exact ⟨ps, n, u, perm, early, by rw [motionFrame, commits, framed], commits⟩

/-- The cut-off count of the frame of the expiry (R165). -/
theorem cutCount_motionFrame_of_due (active : s.allStop ≠ none) (last : s.cutCount = 1) :
    (finish (motionFrame s)).cutCount = 0 := by
  obtain ⟨-, A, F, P, L, G, b, m, shape⟩ := motionFrame_frame s
  refine (congrArg State.cutCount shape).trans ?_
  simp only [last, ite_eq_left_iff]
  exact fun off => absurd (Option.not_isSome_iff_eq_none.mp off) active

theorem flyers_finish (s : State) : (finish s).flyers = s.flyers := by
  obtain ⟨G, shape⟩ := finish_shape s
  rw [shape]

/-- The ports of a frame keep what their faults and the readiness rule keep of every flyer. -/
theorem ports_each (portable : Portable P) (ps : List PortId) (v : State) (n : Nat) :
    Each P v (finish (forEach ps portFrame { v with free := n })) := fun f has => by
  rw [flyer_finish]
  exact Each.forEach (portFrame_each portable) ps { v with free := n } f has

/-- Ports without a pending swap and without a third miss act on no flyer. -/
theorem ports_flyers (perm : ps.Perm allPorts) (port : ∀ p, v.port p = s.port p)
    (calm : ∀ p, (s.port p).swap = false ∧ ¬thirdDue (s.port p)) (n : Nat) :
    (finish (forEach ps portFrame { v with free := n })).flyers = v.flyers :=
  (flyers_finish _).trans (flyers_forEach_portFrame (s := { v with free := n }) (perm.nodup_iff.mpr nodup_allPorts)
    fun p _ => (port p ▸ calm p :))

/-- Settles O48: the expiry on each flyer by its own record, and what the frame's advance and the ports leave of it. -/
theorem cutOffFaultsEveryFlyerStillStopping : Obligations.CutOffFaultsEveryFlyerStillStopping := by
  unfold Obligations.CutOffFaultsEveryFlyerStillStopping
  intro cutOff s runs
  have same : cutOff = CutOffDone := rfl
  rw [same]
  refine ⟨fun undue => ?_, fun active last => ?_, fun active last => ?_⟩
  · exact (exec_cutoff runs).trans (by rw [if_neg (mt cutOffDue_iff.mp undue)])
  · refine ⟨_, cutOffExpiry_done { s with cutCount := 0 }, (exec_cutoff runs).trans ?_⟩
    rw [if_pos (cutOffDue_iff.mpr ⟨active, last⟩), lowerCutOff_of_due active last]
  · obtain ⟨ps, n, u, perm, early, whole, commits⟩ := motionFrame_of_due active last
    have late := cutOffExpiry_done (trajectoryFrame u)
    have count := cutCount_motionFrame_of_due active last
    have ran := exec_motionFrame runs
    rw [whole] at ran count
    refine ⟨_, ps, n, u, cutOffExpiry (trajectoryFrame u), _, fun f g same => by rw [same], perm, early, late, rfl, ran, count,
      fun calm => ?_, late.none_stopping, fun calm => ⟨fun f => ?_, fun sound f still leader => ?_, fun none f stopping => ?_⟩⟩
    · obtain ⟨A, F, L, m, shape⟩ := trajectoryAndCutOff_shape s
      have port (p : PortId) : (cutOffExpiry (trajectoryFrame u)).port p = s.port p := by
        rw [← commits, shape]
        rfl
      exact ports_flyers perm port calm n
    · have calmed (g : FlyerId) : (u.flyer g).state.calm = true := early.calm (calm active) g
      exact (ports_each resting_portable ps _ n f ⟨cutOffExpiry_calm _ (trajectoryFrame_calm u calmed) f,
        late.none_stopping f⟩).2
    · have own : u.flyer f = s.flyer f := early.stays still
      have ahead : u.flyer (leaderOf s f) = s.flyer (leaderOf s f) := early.stays leader
      have led : leaderOf u f = leaderOf s f := early.leaderOf f
      have stood := flyer_trajectoryFrame_of_stands (s := u) (g := f) (early.formationsSound sound)
        (by rw [led, ahead]; exact stands_of_quiet (calm active _) leader)
      rw [own] at stood
      exact (late.stays (by rw [stood]; exact still)).trans stood
    · obtain ⟨quiet, doomed⟩ := doomed_of_cutOff early fun g => ⟨calm active g, none g⟩
      have ended : Ended _ := ports_each ended_portable ps _ n f
        (ended_of_doomed late (trajectoryFrame_each doomed_lasting quiet f (doomed f stopping)))
      refine ⟨ended.1, ended.2, fun c cause => ports_each (cause_portable c) ps _ n f ?_⟩
      exact (((trajectoryFrame_gentle u).trans (cutOffExpiry_gentle _)).flyers f).cause c ((early.cause f).trans cause)

end Sys2Proof.Machine
end

section
/-! Bytes and the configuration image: what is written reads back (R195, R197, R200, R205). -/

namespace Sys2Proof.Machine

variable {s : State} {bs cs : List Byte} {i k n w : Nat}

/-! ## Numbers as bytes (R200) -/

theorem length_bytesOf (w : Nat) (v : Int) : (bytesOf w v).length = w := by
  induction w generalizing v with
  | zero => rfl
  | succ w ih => rw [bytesOf, List.length_cons, ih]

theorem length_num (w n : Nat) : (num w n).length = w := length_bytesOf w n

theorem natOf_num (small : n < 256 ^ w) : natOf (num w n) = n := by
  induction w generalizing n with
  | zero =>
    have zero : n = 0 := by simpa using small
    rw [zero]
    rfl
  | succ w ih =>
    have rest : natOf (bytesOf w ((n / 256 : Nat) : Int)) = n / 256 :=
      ih (by rw [pow_succ] at small; exact Nat.div_lt_of_lt_mul (by rwa [Nat.mul_comm]))
    have low : (BitVec.ofInt 8 (n : Int)).toNat = n % 256 := by
      rw [BitVec.ofInt_natCast, BitVec.toNat_ofNat]
    rw [num, bytesOf, natOf, low, show (n : Int) / 256 = ((n / 256 : Nat) : Int) by simp, rest]
    omega

/-- A small signed number reads back from two bytes (R200). -/
theorem intOf_bytesOf_two {v : Int} (low : -32768 ≤ v) (high : v < 32768) : intOf (bytesOf 2 v) = v := by
  have byte (x : Int) : ((BitVec.ofInt 8 x).toNat : Int) = x % 256 := by
    rw [BitVec.toNat_ofInt]
    have pos : 0 ≤ x % 256 := Int.emod_nonneg x (by decide)
    simpa using Int.toNat_of_nonneg pos
  have first := byte v
  have second := byte (v / 256)
  have nat : (natOf (bytesOf 2 v) : Int) = v % 256 + 256 * (v / 256 % 256) := by
    simp only [bytesOf, natOf, Nat.mul_zero, Nat.add_zero, Nat.cast_add, Nat.cast_mul, first, second]
    rfl
  rw [intOf, length_bytesOf]
  split <;> omega

/-! ## Ranges of a list -/

theorem slice_append_left (fit : k + w ≤ bs.length) : slice (bs ++ cs) k w = slice bs k w := by
  rw [slice, slice, List.drop_append_of_le_length (by omega), List.take_append_of_le_length (by simp; omega)]

theorem slice_append_right (bs cs : List Byte) (k w : Nat) : slice (bs ++ cs) (bs.length + k) w = slice cs k w := by
  rw [slice, slice, List.drop_append, List.drop_eq_nil_of_le (by omega), List.nil_append]
  congr 2
  omega

theorem slice_slice (fit : k + w ≤ n) : slice (slice bs i n) k w = slice bs (i + k) w := by
  rw [slice, slice, slice, List.drop_take, List.drop_drop, List.take_take, Nat.min_eq_left (by omega)]

theorem slice_all (len : bs.length = n) : slice bs 0 n = bs := by
  rw [slice, List.drop_zero, ← len, List.take_length]

/-- One block of a list of blocks of one length. -/
theorem slice_flatMap {α : Type} {f : α → List Byte} {l : List α} (len : ∀ x, (f x).length = n) {x : α}
    (stands : l[i]? = some x) : slice (l.flatMap f) (n * i) n = f x := by
  induction l generalizing i with
  | nil => cases stands
  | cons y l ih =>
    cases i with
    | zero =>
      obtain rfl : y = x := by simpa using stands
      rw [List.flatMap_cons, Nat.mul_zero, slice_append_left (by rw [len]; omega), slice_all (len y)]
    | succ i =>
      rw [List.flatMap_cons, show n * (i + 1) = (f y).length + n * i by rw [len]; ring, slice_append_right]
      exact ih (by simpa using stands)

theorem length_flatMap_const {α : Type} {f : α → List Byte} (len : ∀ x, (f x).length = n) (l : List α) :
    (l.flatMap f).length = n * l.length := by
  induction l with
  | nil => rfl
  | cons x l ih => rw [List.flatMap_cons, List.length_append, len, ih, List.length_cons]; ring

/-! ## Checksums (R200) -/

theorem crc16Holds_sealed16 (bs : List Byte) : crc16Holds (sealed16 bs) = true := by
  have len : (sealed16 bs).length - 2 = bs.length := by rw [sealed16, List.length_append, length_bytesOf]; omega
  rw [crc16Holds, len, decide_eq_true_iff, sealed16, List.take_left]
  have right := slice_append_right bs (bytesOf 2 (crc16 bs).toNat) 0 2
  rw [Nat.add_zero] at right
  rw [right, slice_all (length_bytesOf 2 _)]

/-! ## The layout of the image (R205) -/

/-- The fields of the image before its entries. -/
def imageHead (s : State) : List Byte :=
  marker ++ num 4 578 ++ num 1 s.cfgT ++ num 2 s.cutoff ++ num 1 s.logMode.code ++ num 2 s.dsep

theorem length_imageHead (s : State) : (imageHead s).length = 14 := by
  simp only [imageHead, List.length_append, length_num]
  rfl

theorem length_axisEntry (p : Option AxisParams) : (axisEntry p).length = 23 := by
  cases p with
  | none => rfl
  | some p => simp [axisEntry, paramsBytes, vecBytes, length_num, length_bytesOf]

theorem length_slotsBytes (t : Slots) : (slotsBytes t).length = 2 := by
  have one (o : Option Nat) : (optByte o).length = 1 := by cases o <;> rfl
  rw [slotsBytes, List.length_append, one, one]

theorem length_flyerEntry (d : Option FlyerDef) : (flyerEntry d).length = 28 := by
  cases d with
  | none => rfl
  | some d => simp [flyerEntry, definitionBytes, memberBytes, limitBytes, vecBytes, length_num, length_bytesOf]

theorem length_formationEntry (m : Option Formation) : (formationEntry m).length = 24 := by
  cases m with
  | none => rfl
  | some m => simp [formationEntry, unusedFollower, vecBytes, length_num, length_bytesOf]

theorem length_zoneBytes (z : Zone) : (zoneBytes z).length = 14 := by
  simp [zoneBytes, vecBytes, flag, length_num, length_bytesOf]

/-- The axis entries of the image. -/
def axisEntries (s : State) : List Byte := allAxes.flatMap fun a => axisEntry (s.axis a).params

/-- The slot tables of the image. -/
def slotEntries (s : State) : List Byte := allPorts.flatMap fun p => slotsBytes (s.port p).active

/-- The flyer entries of the image. -/
def flyerEntries (s : State) : List Byte := allFlyers.flatMap fun f => flyerEntry (s.flyer f).defn

/-- The formation entries of the image. -/
def formationEntries (s : State) : List Byte := allFormations.flatMap fun n => formationEntry (s.formation n)

/-- The zone entries of the image. -/
def zoneEntries (s : State) : List Byte := allZones.flatMap fun z => zoneBytes (s.zone z)

theorem length_axisEntries (s : State) : (axisEntries s).length = 276 :=
  length_flatMap_const (fun _ => length_axisEntry _) allAxes

theorem length_slotEntries (s : State) : (slotEntries s).length = 12 :=
  length_flatMap_const (fun _ => length_slotsBytes _) allPorts

theorem length_flyerEntries (s : State) : (flyerEntries s).length = 112 :=
  length_flatMap_const (fun _ => length_flyerEntry _) allFlyers

theorem length_formationEntries (s : State) : (formationEntries s).length = 48 :=
  length_flatMap_const (fun _ => length_formationEntry _) allFormations

theorem length_zoneEntries (s : State) : (zoneEntries s).length = 112 :=
  length_flatMap_const (fun _ => length_zoneBytes _) allZones

theorem imageBody_eq (s : State) :
    imageBody s =
      imageHead s ++ (axisEntries s ++ (slotEntries s ++ (flyerEntries s ++ (formationEntries s ++ zoneEntries s)))) := by
  simp only [imageBody, imageHead, axisEntries, slotEntries, flyerEntries, formationEntries, zoneEntries, List.append_assoc]
  rfl

theorem length_imageBody (s : State) : (imageBody s).length = 574 := by
  simp only [imageBody_eq, List.length_append, length_imageHead, length_axisEntries, length_slotEntries,
    length_flyerEntries, length_formationEntries, length_zoneEntries]

theorem length_imageOf (s : State) : (imageOf s).length = 578 := by
  rw [imageOf, sealed32, List.length_append, length_imageBody, length_num]

/-- The CRC field of the image (R205). -/
def imageCrc (s : State) : List Byte := num 4 (crc32 (imageBody s)).toNat

theorem imageOf_eq (s : State) :
    imageOf s = imageHead s ++ (axisEntries s ++ (slotEntries s ++ (flyerEntries s ++ (formationEntries s ++
      (zoneEntries s ++ imageCrc s))))) := by
  rw [imageOf, sealed32, imageBody_eq, imageCrc, imageBody_eq]
  simp only [List.append_assoc]

theorem slice_imageHead (fit : k + w ≤ 14) (s : State) : slice (imageOf s) k w = slice (imageHead s) k w := by
  rw [imageOf_eq, slice_append_left (by rw [length_imageHead]; exact fit)]

theorem slice_axisEntries (fit : k + w ≤ 276) (s : State) : slice (imageOf s) (14 + k) w = slice (axisEntries s) k w := by
  rw [imageOf_eq, ← length_imageHead s, slice_append_right, slice_append_left (by rw [length_axisEntries]; exact fit)]

theorem slice_slotEntries (fit : k + w ≤ 12) (s : State) : slice (imageOf s) (290 + k) w = slice (slotEntries s) k w := by
  rw [imageOf_eq, show 290 + k = (imageHead s).length + ((axisEntries s).length + k) by
    rw [length_imageHead, length_axisEntries]; omega, slice_append_right, slice_append_right,
    slice_append_left (by rw [length_slotEntries]; exact fit)]

theorem slice_flyerEntries (fit : k + w ≤ 112) (s : State) : slice (imageOf s) (302 + k) w = slice (flyerEntries s) k w := by
  rw [imageOf_eq, show 302 + k = (imageHead s).length + ((axisEntries s).length + ((slotEntries s).length + k)) by
    rw [length_imageHead, length_axisEntries, length_slotEntries]; omega, slice_append_right, slice_append_right,
    slice_append_right, slice_append_left (by rw [length_flyerEntries]; exact fit)]

theorem slice_formationEntries (fit : k + w ≤ 48) (s : State) :
    slice (imageOf s) (414 + k) w = slice (formationEntries s) k w := by
  rw [imageOf_eq, show 414 + k = (imageHead s).length + ((axisEntries s).length + ((slotEntries s).length +
    ((flyerEntries s).length + k))) by
      rw [length_imageHead, length_axisEntries, length_slotEntries, length_flyerEntries]; omega,
    slice_append_right, slice_append_right, slice_append_right, slice_append_right,
    slice_append_left (by rw [length_formationEntries]; exact fit)]

theorem slice_zoneEntries (fit : k + w ≤ 112) (s : State) : slice (imageOf s) (462 + k) w = slice (zoneEntries s) k w := by
  rw [imageOf_eq, show 462 + k = (imageHead s).length + ((axisEntries s).length + ((slotEntries s).length +
    ((flyerEntries s).length + ((formationEntries s).length + k)))) by
      rw [length_imageHead, length_axisEntries, length_slotEntries, length_flyerEntries, length_formationEntries]; omega,
    slice_append_right, slice_append_right, slice_append_right, slice_append_right, slice_append_right,
    slice_append_left (by rw [length_zoneEntries]; exact fit)]

/-! ## Each entry of the image (R205) -/

theorem slice_axis (s : State) (a : AxisId) : slice (imageOf s) (axisOffset a) 23 = axisEntry (s.axis a).params := by
  have stands : allAxes[a.val]? = some a := by fin_cases a <;> rfl
  rw [axisOffset, slice_axisEntries (by omega)]
  exact slice_flatMap (fun _ => length_axisEntry _) stands

theorem slice_port (s : State) (p : PortId) : slice (imageOf s) (portOffset p) 2 = slotsBytes (s.port p).active := by
  have stands : allPorts[p.val]? = some p := by fin_cases p <;> rfl
  rw [portOffset, slice_slotEntries (by omega)]
  exact slice_flatMap (fun _ => length_slotsBytes _) stands

theorem slice_flyer (s : State) (f : FlyerId) : slice (imageOf s) (flyerOffset f) 28 = flyerEntry (s.flyer f).defn := by
  have stands : allFlyers[f.val]? = some f := by fin_cases f <;> rfl
  rw [flyerOffset, slice_flyerEntries (by omega)]
  exact slice_flatMap (fun _ => length_flyerEntry _) stands

theorem slice_formation (s : State) (n : FormationId) :
    slice (imageOf s) (formationOffset n) 24 = formationEntry (s.formation n) := by
  have stands : allFormations[n.val]? = some n := by fin_cases n <;> rfl
  rw [formationOffset, slice_formationEntries (by omega)]
  exact slice_flatMap (fun _ => length_formationEntry _) stands

theorem slice_zone (s : State) (z : ZoneId) : slice (imageOf s) (zoneOffset z) 14 = zoneBytes (s.zone z) := by
  have stands : allZones[z.val]? = some z := by fin_cases z <;> rfl
  rw [zoneOffset, slice_zoneEntries (by omega)]
  exact slice_flatMap (fun _ => length_zoneBytes _) stands

theorem imageValid_imageOf (s : State) : imageValid (imageOf s) = true := by
  have head : slice (imageOf s) 0 4 = marker := by rw [slice_imageHead (by omega)]; rfl
  have size : slice (imageOf s) 4 4 = num 4 578 := by rw [slice_imageHead (by omega)]; rfl
  have body : (imageOf s).take 574 = imageBody s := by
    rw [imageOf, sealed32, ← length_imageBody s, List.take_left]
  have field : slice (imageOf s) 574 4 = num 4 (crc32 (imageBody s)).toNat := by
    have right := slice_append_right (imageBody s) (num 4 (crc32 (imageBody s)).toNat) 0 4
    rw [length_imageBody, Nat.add_zero, slice_all (length_num 4 _)] at right
    exact right
  rw [imageValid, show Config.imageBytes = 578 from rfl, show Config.imageBody = 574 from rfl, length_imageOf, head, size,
    body, field, natOf_num (by decide)]
  simp

/-- An entry is read off the bytes it stands in. -/
theorem u8At_slice (fit : k + 1 ≤ n) : u8At (slice bs i n) k = u8At bs (i + k) := by
  rw [u8At, u8At, slice_slice fit]

theorem entryAt_slice {α : Type} (some_ : 1 ≤ n) (read : Option α) : entryAt (slice bs i n) 0 read = entryAt bs i read := by
  rw [entryAt, entryAt, u8At_slice (by omega), Nat.add_zero]

theorem paramsAt_slice (bs : List Byte) (i : Nat) : paramsAt (slice bs i 23) 1 = paramsAt bs (i + 1) := by
  simp [paramsAt, vec16At, i16At, u16At, slice_slice, Nat.add_assoc]

theorem flyerFieldsAt_slice (bs : List Byte) (i : Nat) : flyerFieldsAt (slice bs i 28) 1 = flyerFieldsAt bs (i + 1) := by
  simp [flyerFieldsAt, vec16At, i16At, u16At, u8At, slice_slice, Nat.add_assoc]

theorem formationFieldsAt_slice (bs : List Byte) (i : Nat) :
    formationFieldsAt (slice bs i 24) 1 = formationFieldsAt bs (i + 1) := by
  simp [formationFieldsAt, followerAt, vec16At, i16At, u8At, slice_slice, Nat.add_assoc]

theorem zoneFieldsAt_slice (bs : List Byte) (i : Nat) : zoneFieldsAt (slice bs i 14) 0 = zoneFieldsAt bs i := by
  simp [zoneFieldsAt, vec16At, i16At, u8At, slice_slice, Nat.add_assoc]

end Sys2Proof.Machine
end

section
/-! The entries of a written image read back (R195, R197, R205). -/

namespace Sys2Proof.Machine

variable {s : State} {n : Nat} {v : Vec3}

/-! ## Ranges -/

theorem within_iff {lo hi x : Int} : within lo hi x = true ↔ lo ≤ x ∧ x ≤ hi := by simp [within]

theorem cornerInRange_iff :
    cornerInRange v = true ↔ (-16000 ≤ v.x ∧ v.x ≤ 16000) ∧ (-16000 ≤ v.y ∧ v.y ≤ 16000) ∧ 0 ≤ v.z ∧ v.z ≤ 30000 := by
  simp only [cornerInRange, Bool.and_eq_true, within_iff, and_assoc]

/-- A vector whose components are small reads back from its six bytes (R200). -/
theorem vec_reads_back {b : Int} (bound : b ≤ 32767) (x : -b ≤ v.x ∧ v.x ≤ b) (y : -b ≤ v.y ∧ v.y ≤ b)
    (z : -b ≤ v.z ∧ v.z ≤ b) :
    (⟨intOf (bytesOf 2 v.x), intOf (bytesOf 2 v.y), intOf (bytesOf 2 v.z)⟩ : Vec3) = v := by
  rw [intOf_bytesOf_two (by omega) (by omega), intOf_bytesOf_two (by omega) (by omega),
    intOf_bytesOf_two (by omega) (by omega)]

theorem corner_reads_back (corner : cornerInRange v = true) :
    (⟨intOf (bytesOf 2 v.x), intOf (bytesOf 2 v.y), intOf (bytesOf 2 v.z)⟩ : Vec3) = v := by
  obtain ⟨x, y, z⟩ := cornerInRange_iff.mp corner
  exact vec_reads_back (b := 30000) (by omega) (by omega) (by omega) (by omega)

theorem natOf_num_one (small : n < 256) : natOf (num 1 n) = n := natOf_num (by omega)

theorem natOf_num_two (small : n < 65536) : natOf (num 2 n) = n := natOf_num (by omega)

/-! ## Axes (R21, R205) -/

theorem paramsAt_axisEntry {q : AxisParams} (inRange : paramsInRange q = true) :
    paramsAt (axisEntry (some q)) 1 = q := by
  have shape : paramsAt (axisEntry (some q)) 1 =
      { anchor := ⟨intOf (bytesOf 2 q.anchor.x), intOf (bytesOf 2 q.anchor.y), intOf (bytesOf 2 q.anchor.z)⟩
        l0 := natOf (num 2 q.l0), k := natOf (num 2 q.k), lmin := natOf (num 2 q.lmin), lmax := natOf (num 2 q.lmax)
        vline := natOf (num 2 q.vline), feLimit := natOf (num 2 q.feLimit), loadMax := natOf (num 2 q.loadMax)
        slackMin := natOf (num 2 q.slackMin) } := rfl
  simp only [paramsInRange, Bool.and_eq_true, within_iff] at inRange
  obtain ⟨⟨⟨⟨⟨⟨⟨⟨⟨⟨anchor, l0⟩, k⟩, lmin⟩, lmax⟩, _⟩, vline⟩, feLimit⟩, loadMax⟩, slackMin⟩, _⟩ := inRange
  rw [shape, corner_reads_back anchor, natOf_num_two (by omega), natOf_num_two (by omega), natOf_num_two (by omega),
    natOf_num_two (by omega), natOf_num_two (by omega), natOf_num_two (by omega), natOf_num_two (by omega),
    natOf_num_two (by omega)]

theorem axis_reads_back {o : Option AxisParams} (inRange : ∀ q, o = some q → paramsInRange q = true) :
    entryAt (axisEntry o) 0 (passing paramsInRange (paramsAt (axisEntry o) 1)) = some o := by
  cases o with
  | none => rfl
  | some q =>
    rw [paramsAt_axisEntry (inRange q rfl), passing, if_pos (inRange q rfl)]
    rfl

/-! ## Slot tables (R149, R205) -/

/-- The byte of a slot (R200). -/
theorem slotNamed_optByte (o : Option AxisId) : slotNamed (natOf (optByte (o.map fun a => a.val))) = some o := by
  cases o with
  | none => rfl
  | some a =>
    have byte : natOf (optByte ((some a).map fun a => a.val)) = a.val := natOf_num_one (a.isLt.trans (by decide))
    rw [byte, slotNamed, if_neg (by omega), axisNamed, dif_pos a.isLt]
    rfl

theorem slots_read_back {t : Slots} (single : t.doubled = false) :
    slotsOf (u8At (slotsBytes t) 0) (u8At (slotsBytes t) 1) = some t := by
  have one (o : Option Nat) : (optByte o).length = 1 := by cases o <;> rfl
  have zero : u8At (slotsBytes t) 0 = natOf (optByte (t.slot0.map fun a => a.val)) := by
    rw [u8At, slotsBytes, slice_append_left (by rw [one]), slice_all (one _)]
  have first : u8At (slotsBytes t) 1 = natOf (optByte (t.slot1.map fun a => a.val)) := by
    have right := slice_append_right (optByte (t.slot0.map fun a => a.val)) (optByte (t.slot1.map fun a => a.val)) 0 1
    rw [one] at right
    rw [u8At, slotsBytes, right, slice_all (one _)]
  rw [zero, first, slotsOf, slotNamed_optByte, slotNamed_optByte]
  exact if_neg (by rw [single]; exact Bool.false_ne_true)

/-! ## Flyers (R31, R205) -/

theorem allNamed_length {α β : Type} {name : α → Option β} {xs : List α} {ys : List β} (named : allNamed name xs = some ys) :
    ys.length = xs.length := by
  induction xs generalizing ys with
  | nil => cases named; rfl
  | cons x xs ih =>
    unfold allNamed at named
    split at named
    · next y zs _ rest =>
      cases named
      rw [List.length_cons, List.length_cons, ih rest]
    · cases named

theorem allNamed_map {α β : Type} {name : α → Option β} {code : β → α} {ys : List β}
    (back : ∀ y ∈ ys, name (code y) = some y) : allNamed name (ys.map code) = some ys := by
  induction ys with
  | nil => rfl
  | cons y ys ih =>
    rw [List.map_cons, allNamed, back y List.mem_cons_self, ih fun z mem => back z (List.mem_cons_of_mem y mem)]

/-- The conditions that SET_FLYER's ranges put on a definition (R31). -/
structure DefinitionInRange (d : FlyerDef) : Prop where
  few : 1 ≤ d.members.length ∧ d.members.length ≤ 4
  distinct : allDistinct d.members = true
  vp : within 10 6000 d.vp = true
  ap : within 100 8000 d.ap = true
  astop : within d.ap 12000 d.astop = true
  drop : within 500 10000 d.drop = true
  tol : within 1 500 d.tol = true
  lo : cornerInRange d.volume.lo = true
  hi : cornerInRange d.volume.hi = true
  ordered : d.volume.ordered = true

theorem definitionInRange_of_fields {x : FlyerFields} {d : FlyerDef} (given : flyerDefOf x = some d) :
    DefinitionInRange d := by
  unfold flyerDefOf at given
  split at given
  · cases given
  · next ms named =>
    split at given
    · next passes =>
      cases given
      simp only [Bool.and_eq_true, decide_eq_true_iff] at passes
      obtain ⟨⟨⟨⟨⟨⟨⟨⟨⟨⟨⟨count, four⟩, _⟩, distinct⟩, vp⟩, ap⟩, astop⟩, drop⟩, tol⟩, lo⟩, hi⟩, ordered⟩ := passes
      have len : ms.length = x.count := by
        rw [allNamed_length named, List.length_take, four]
        have := (within_iff.mp count).2
        omega
      have few := within_iff.mp count
      exact ⟨by dsimp only; omega, distinct, vp, ap, astop, drop, tol, lo, hi, ordered⟩
    · cases given

/-- The fields that an image holds for a definition. -/
def fieldsOf (d : FlyerDef) : FlyerFields :=
  { count := d.members.length, members := (d.members.map (fun (a : AxisId) => a.val) ++ List.replicate 4 255).take 4, vp := d.vp
    ap := d.ap, astop := d.astop, drop := d.drop, tol := d.tol, vmin := d.volume.lo, vmax := d.volume.hi }

theorem flyerDefOf_fieldsOf {d : FlyerDef} (inRange : DefinitionInRange d) : flyerDefOf (fieldsOf d) = some d := by
  obtain ⟨few, distinct, vp, ap, astop, drop, tol, lo, hi, ordered⟩ := inRange
  have used : (fieldsOf d).members.take (fieldsOf d).count = d.members.map fun (a : AxisId) => a.val := by
    rw [fieldsOf]
    dsimp only
    rw [List.take_take, Nat.min_eq_left few.2, List.take_append_of_le_length (by simp), List.take_of_length_le (by simp)]
  have unused : (fieldsOf d).members.drop (fieldsOf d).count = List.replicate (4 - d.members.length) 255 := by
    rw [fieldsOf]
    dsimp only
    rw [List.drop_take, List.drop_append, List.drop_eq_nil_of_le (by simp), List.nil_append, List.length_map, Nat.sub_self,
      List.drop_zero, List.take_replicate, Nat.min_eq_left (by omega)]
  have four : (fieldsOf d).members.length = 4 := by simp [fieldsOf]
  rw [flyerDefOf, used, allNamed_map fun (a : AxisId) _ => axisNamed_val a]
  dsimp only
  rw [unused, four]
  refine if_pos ?_
  simp only [Bool.and_eq_true, decide_eq_true_iff]
  refine ⟨⟨⟨⟨⟨⟨⟨⟨⟨⟨⟨within_iff.mpr ?_, trivial⟩, ?_⟩, distinct⟩, vp⟩, ap⟩, astop⟩, drop⟩, tol⟩, lo⟩, hi⟩, ordered⟩
  · rw [fieldsOf]
    dsimp only
    omega
  · simp

theorem flyerFieldsAt_flyerEntry {d : FlyerDef} (inRange : DefinitionInRange d) :
    flyerFieldsAt (flyerEntry (some d)) 1 = fieldsOf d := by
  obtain ⟨few, -, vp, ap, astop, drop, tol, lo, hi, -⟩ := inRange
  obtain ⟨members, dvp, dap, dastop, ddrop, dtol, volume⟩ := d
  dsimp only at few vp ap astop drop tol lo hi
  rw [within_iff] at vp ap astop drop tol
  have shape (ms : List AxisId) (counted : ms.length ≤ 4)
      (bytes : flyerFieldsAt (flyerEntry (some ⟨ms, dvp, dap, dastop, ddrop, dtol, volume⟩)) 1 =
        { count := natOf (num 1 ms.length)
          members := (ms.map (fun (a : AxisId) => natOf (num 1 a.val)) ++ List.replicate 4 255).take 4
          vp := natOf (num 2 dvp), ap := natOf (num 2 dap), astop := natOf (num 2 dastop), drop := natOf (num 2 ddrop)
          tol := natOf (num 2 dtol)
          vmin := ⟨intOf (bytesOf 2 volume.lo.x), intOf (bytesOf 2 volume.lo.y), intOf (bytesOf 2 volume.lo.z)⟩
          vmax := ⟨intOf (bytesOf 2 volume.hi.x), intOf (bytesOf 2 volume.hi.y), intOf (bytesOf 2 volume.hi.z)⟩ }) :
      flyerFieldsAt (flyerEntry (some ⟨ms, dvp, dap, dastop, ddrop, dtol, volume⟩)) 1 =
        fieldsOf ⟨ms, dvp, dap, dastop, ddrop, dtol, volume⟩ := by
    have numbers : (fun a : AxisId => natOf (num 1 a.val)) = fun a => a.val :=
      funext fun a => natOf_num_one (a.isLt.trans (by decide))
    rw [bytes, natOf_num_one (by omega), numbers, natOf_num_two (by omega), natOf_num_two (by omega),
      natOf_num_two (by omega), natOf_num_two (by omega), natOf_num_two (by omega), corner_reads_back lo,
      corner_reads_back hi, fieldsOf]
  match members, few with
  | [], few => exact absurd few.1 (by decide)
  | [a], _ => exact shape _ (by simp) rfl
  | [a, b], _ => exact shape _ (by simp) rfl
  | [a, b, c], _ => exact shape _ (by simp) rfl
  | [a, b, c, e], _ => exact shape _ (by simp) rfl
  | _ :: _ :: _ :: _ :: _ :: rest, few =>
    have many := few.2
    simp only [List.length_cons] at many
    omega

theorem flyer_reads_back {o : Option FlyerDef} (given : ∀ d, o = some d → ∃ x, flyerDefOf x = some d) :
    entryAt (flyerEntry o) 0 (flyerDefOf (flyerFieldsAt (flyerEntry o) 1)) = some o := by
  cases o with
  | none => rfl
  | some d =>
    obtain ⟨x, fields⟩ := given d rfl
    have inRange := definitionInRange_of_fields fields
    rw [flyerFieldsAt_flyerEntry inRange, flyerDefOf_fieldsOf inRange]
    rfl

/-! ## Formations (R43, R205) -/

/-- A follower that SET_FORMATION's ranges allow (R43). -/
def FollowerInRange (e : FlyerId × Vec3) : Prop :=
  (-32000 ≤ e.2.x ∧ e.2.x ≤ 32000) ∧ (-32000 ≤ e.2.y ∧ e.2.y ≤ 32000) ∧ (-30000 ≤ e.2.z ∧ e.2.z ≤ 30000) ∧ e.2 ≠ Vec3.zero

theorem followerNamed_eq_some {x : Nat × Vec3} {e : FlyerId × Vec3} (named : followerNamed x = some e) : FollowerInRange e := by
  unfold followerNamed at named
  split at named
  · cases named
  · split at named
    · next passes =>
      cases named
      simpa only [Bool.and_eq_true, within_iff, decide_eq_true_iff, and_assoc, FollowerInRange] using passes
    · cases named

theorem followerNamed_code {e : FlyerId × Vec3} (inRange : FollowerInRange e) : followerNamed (e.1.val, e.2) = some e := by
  rw [followerNamed]
  dsimp only
  rw [flyerNamed_val]
  exact if_pos (by simpa only [Bool.and_eq_true, within_iff, decide_eq_true_iff, and_assoc, FollowerInRange] using inRange)

theorem follower_reads_back {e : FlyerId × Vec3} (inRange : FollowerInRange e) :
    (natOf (num 1 e.1.val), (⟨intOf (bytesOf 2 e.2.x), intOf (bytesOf 2 e.2.y), intOf (bytesOf 2 e.2.z)⟩ : Vec3)) =
      (e.1.val, e.2) := by
  obtain ⟨x, y, z, -⟩ := inRange
  rw [natOf_num_one (e.1.isLt.trans (by decide)), vec_reads_back (b := 32000) (by omega) x y (by omega)]

theorem allNamed_forall {α β : Type} {name : α → Option β} {P : β → Prop} (each : ∀ x y, name x = some y → P y)
    {xs : List α} {ys : List β} (named : allNamed name xs = some ys) : ∀ y ∈ ys, P y := by
  induction xs generalizing ys with
  | nil =>
    cases named
    exact fun _ mem => (List.not_mem_nil mem).elim
  | cons x xs ih =>
    unfold allNamed at named
    split at named
    · next y zs first rest =>
      cases named
      exact fun z mem => (List.mem_cons.mp mem).elim (fun same => same ▸ each x y first) (ih rest z)
    · cases named

/-- The conditions that SET_FORMATION's ranges put on a record (R43). -/
structure FormationInRange (m : Formation) : Prop where
  few : 1 ≤ m.followers.length ∧ m.followers.length ≤ 3
  followers : ∀ e ∈ m.followers, FollowerInRange e
  distinct : allDistinct (m.leader :: m.followers.map fun e => e.1) = true
  offsets : allDistinct (m.followers.map fun e => e.2) = true

theorem formationInRange_of_fields {x : FormationFields} {m : Formation} (given : formationOf x = some m) :
    FormationInRange m := by
  unfold formationOf at given
  split at given
  · next l fs _ named =>
    split at given
    · next passes =>
      cases given
      simp only [Bool.and_eq_true, decide_eq_true_iff] at passes
      obtain ⟨⟨⟨⟨count, three⟩, _⟩, distinct⟩, offsets⟩ := passes
      have few := within_iff.mp count
      have len : fs.length = x.count := by
        rw [allNamed_length named, List.length_take, three]
        omega
      exact ⟨by dsimp only; omega, allNamed_forall (fun _ _ => followerNamed_eq_some) named, distinct, offsets⟩
    · cases given
  · cases given

/-- The fields that an image holds for a formation record. -/
def formationFieldsOf (m : Formation) : FormationFields :=
  { leader := m.leader.val, count := m.followers.length
    followers := (m.followers.map (fun (e : FlyerId × Vec3) => (e.1.val, e.2)) ++ List.replicate 3 (255, Vec3.zero)).take 3 }

theorem formationOf_fieldsOf {m : Formation} (inRange : FormationInRange m) : formationOf (formationFieldsOf m) = some m := by
  obtain ⟨few, followers, distinct, offsets⟩ := inRange
  have used : (formationFieldsOf m).followers.take (formationFieldsOf m).count =
      m.followers.map fun (e : FlyerId × Vec3) => (e.1.val, e.2) := by
    rw [formationFieldsOf]
    dsimp only
    rw [List.take_take, Nat.min_eq_left few.2, List.take_append_of_le_length (by simp), List.take_of_length_le (by simp)]
  have unused : (formationFieldsOf m).followers.drop (formationFieldsOf m).count =
      List.replicate (3 - m.followers.length) (255, Vec3.zero) := by
    rw [formationFieldsOf]
    dsimp only
    rw [List.drop_take, List.drop_append, List.drop_eq_nil_of_le (by simp), List.nil_append, List.length_map, Nat.sub_self,
      List.drop_zero, List.take_replicate, Nat.min_eq_left (by omega)]
  have three : (formationFieldsOf m).followers.length = 3 := by simp [formationFieldsOf]
  have leader : flyerNamed (formationFieldsOf m).leader = some m.leader := flyerNamed_val m.leader
  rw [formationOf, used, allNamed_map fun e mem => followerNamed_code (followers e mem), leader]
  dsimp only
  rw [unused, three]
  refine if_pos ?_
  simp only [Bool.and_eq_true, decide_eq_true_iff]
  refine ⟨⟨⟨⟨within_iff.mpr ?_, trivial⟩, ?_⟩, distinct⟩, offsets⟩
  · rw [formationFieldsOf]
    dsimp only
    omega
  · simp

/-- A follower entry of a record, used or unused (R200). -/
def followerBlock : Option (FlyerId × Vec3) → List Byte
  | some e => followerBytes e
  | none => unusedFollower

theorem length_followerBlock (o : Option (FlyerId × Vec3)) : (followerBlock o).length = 7 := by
  cases o <;> simp [followerBlock, followerBytes, unusedFollower, vecBytes, length_num, length_bytesOf]

theorem followerAt_followerBytes {e : FlyerId × Vec3} (inRange : FollowerInRange e) :
    followerAt (followerBytes e) 0 = (e.1.val, e.2) :=
  (show followerAt (followerBytes e) 0 = (natOf (num 1 e.1.val),
    (⟨intOf (bytesOf 2 e.2.x), intOf (bytesOf 2 e.2.y), intOf (bytesOf 2 e.2.z)⟩ : Vec3)) from rfl).trans
      (follower_reads_back inRange)

theorem followerAt_unusedFollower : followerAt unusedFollower 0 = (255, Vec3.zero) := by decide +kernel

/-- The bytes of a formation entry after its used byte, leader and count. -/
theorem formationEntry_eq (m : Formation) :
    formationEntry (some m) = (num 1 1 ++ num 1 m.leader.val ++ num 1 m.followers.length) ++
      ((m.followers.map some ++ [none, none, none]).flatMap followerBlock).take 21 := by
  have used : (m.followers.map some).flatMap followerBlock = m.followers.flatMap followerBytes := by
    rw [List.flatMap_map]
    rfl
  rw [List.flatMap_append, used]
  simp only [formationEntry, List.flatMap_cons, List.flatMap_nil, List.append_assoc, List.append_nil, followerBlock]

/-- The follower entry at its place. -/
theorem slice_follower {m : Formation} {i : Nat} {o : Option (FlyerId × Vec3)} (few : i < 3)
    (stands : (m.followers.map some ++ [none, none, none])[i]? = some o) :
    slice (formationEntry (some m)) (3 + 7 * i) 7 = followerBlock o := by
  have three : (num 1 1 ++ num 1 m.leader.val ++ num 1 m.followers.length).length = 3 := by
    simp only [List.length_append, length_num]
  have right := slice_append_right (num 1 1 ++ num 1 m.leader.val ++ num 1 m.followers.length)
    (((m.followers.map some ++ [none, none, none]).flatMap followerBlock).take 21) (7 * i) 7
  have cut (bs : List Byte) : slice (bs.take 21) (7 * i) 7 = slice bs (7 * i) 7 := by
    have whole := slice_slice (bs := bs) (i := 0) (n := 21) (k := 7 * i) (w := 7) (by omega)
    have front : slice bs 0 21 = bs.take 21 := rfl
    rwa [front, Nat.zero_add] at whole
  rw [three, cut] at right
  rw [formationEntry_eq, right]
  exact slice_flatMap length_followerBlock stands

theorem followerAt_slice (bs : List Byte) (i : Nat) : followerAt (slice bs i 7) 0 = followerAt bs i := by
  simp [followerAt, vec16At, i16At, u8At, slice_slice, Nat.add_assoc]

theorem formationFieldsAt_formationEntry {m : Formation} (inRange : FormationInRange m) :
    formationFieldsAt (formationEntry (some m)) 1 = formationFieldsOf m := by
  obtain ⟨few, followers, -, -⟩ := inRange
  have leader : u8At (formationEntry (some m)) 1 = m.leader.val := natOf_num_one (m.leader.isLt.trans (by decide))
  have count : u8At (formationEntry (some m)) 2 = m.followers.length := natOf_num_one (by omega)
  have used {i : Nat} {e : FlyerId × Vec3} (place : i < 3)
      (stands : (m.followers.map some ++ [none, none, none])[i]? = some (some e)) (mem : e ∈ m.followers) :
      followerAt (formationEntry (some m)) (3 + 7 * i) = (e.1.val, e.2) := by
    rw [← followerAt_slice, slice_follower place stands]
    exact followerAt_followerBytes (followers e mem)
  have unused {i : Nat} (place : i < 3) (stands : (m.followers.map some ++ [none, none, none])[i]? = some none) :
      followerAt (formationEntry (some m)) (3 + 7 * i) = (255, Vec3.zero) := by
    rw [← followerAt_slice, slice_follower place stands]
    exact followerAt_unusedFollower
  have entries : [followerAt (formationEntry (some m)) 3, followerAt (formationEntry (some m)) 10,
      followerAt (formationEntry (some m)) 17] = (formationFieldsOf m).followers := by
    obtain ⟨l, members⟩ := m
    match members, few with
    | [], few => exact absurd few.1 (Nat.not_succ_le_zero 0)
    | [e], _ =>
      rw [used (i := 0) (by decide) rfl (by simp), unused (i := 1) (by decide) rfl, unused (i := 2) (by decide) rfl]
      rfl
    | [e, g], _ =>
      rw [used (i := 0) (by decide) rfl (by simp), used (i := 1) (by decide) rfl (by simp), unused (i := 2) (by decide) rfl]
      rfl
    | [e, g, h], _ =>
      rw [used (i := 0) (by decide) rfl (by simp), used (i := 1) (by decide) rfl (by simp),
        used (i := 2) (by decide) rfl (by simp)]
      rfl
    | _ :: _ :: _ :: _ :: rest, few =>
      have many := few.2
      simp only [List.length_cons] at many
      omega
  rw [formationFieldsAt, leader, count, entries]
  rfl

theorem formation_reads_back {o : Option Formation} (given : ∀ m, o = some m → ∃ x, formationOf x = some m) :
    entryAt (formationEntry o) 0 (formationOf (formationFieldsAt (formationEntry o) 1)) = some o := by
  cases o with
  | none => rfl
  | some m =>
    obtain ⟨x, fields⟩ := given m rfl
    have inRange := formationInRange_of_fields fields
    rw [formationFieldsAt_formationEntry inRange, formationOf_fieldsOf inRange]
    rfl

/-! ## Zones (R56, R205) -/

/-- The conditions that SET_ZONE's ranges put on a record (R56). -/
theorem zoneInRange_of_fields {z : Zone} {x : ZoneFields} (given : zoneOf x = some z) :
    cornerInRange z.box.lo = true ∧ cornerInRange z.box.hi = true ∧ z.box.ordered = true := by
  unfold zoneOf at given
  split at given
  · next passes =>
    cases given
    simp only [Bool.and_eq_true, decide_eq_true_iff] at passes
    obtain ⟨⟨⟨⟨_, lo⟩, hi⟩, ordered⟩, _⟩ := passes
    exact ⟨lo, hi, ordered⟩
  · cases given

theorem zone_reads_back {z : Zone} {x : ZoneFields} (given : zoneOf x = some z) :
    zoneOf (zoneFieldsAt (zoneBytes z) 0) = some z := by
  obtain ⟨lo, hi, ordered⟩ := zoneInRange_of_fields given
  have shape : zoneFieldsAt (zoneBytes z) 0 =
      { enabled := natOf (flag z.enabled)
        vmin := ⟨intOf (bytesOf 2 z.box.lo.x), intOf (bytesOf 2 z.box.lo.y), intOf (bytesOf 2 z.box.lo.z)⟩
        vmax := ⟨intOf (bytesOf 2 z.box.hi.x), intOf (bytesOf 2 z.box.hi.y), intOf (bytesOf 2 z.box.hi.z)⟩
        mask := natOf (num 1 z.mask.toNat) } := rfl
  have enabled (b : Bool) : natOf (flag b) = if b then 1 else 0 := by cases b <;> rfl
  rw [shape, corner_reads_back lo, corner_reads_back hi, enabled, natOf_num_one ((BitVec.isLt _).trans (by decide)), zoneOf]
  refine (if_pos ?_).trans ?_
  · simp only [Bool.and_eq_true, decide_eq_true_iff]
    refine ⟨⟨⟨⟨?_, lo⟩, hi⟩, ordered⟩, BitVec.isLt _⟩
    split <;> decide
  · obtain ⟨on, box, mask⟩ := z
    cases on <;> simp

/-! ## The whole image (R195, R197, R205) -/

/-- Settles O53: each item stands at its offset in the bytes that its request would carry. -/
theorem aWrittenImageReadsBack : Obligations.AWrittenImageReadsBack := by
  unfold Obligations.AWrittenImageReadsBack
  refine ⟨by decide +kernel, crc16Holds_sealed16, fun s => ?_⟩
  refine ⟨length_imageOf s, imageValid_imageOf s, fun small => ?_, fun small => ?_, ?_, fun small => ?_, fun a inRange => ?_,
    fun p single => ?_, fun f given => ?_, fun n given => ?_, fun z given => ?_⟩
  · rw [u8At, slice_imageHead (by decide)]
    exact natOf_num_one small
  · rw [u16At, slice_imageHead (by decide)]
    exact natOf_num_two small
  · rw [u8At, slice_imageHead (by decide)]
    change logModeNamed (natOf (num 1 s.logMode.code)) = some s.logMode
    cases s.logMode <;> rfl
  · rw [u16At, slice_imageHead (by decide)]
    exact natOf_num_two small
  · rw [← paramsAt_slice, ← entryAt_slice (by decide : 1 ≤ 23), slice_axis]
    exact axis_reads_back inRange
  · have zero := u8At_slice (bs := imageOf s) (i := portOffset p) (by decide : 0 + 1 ≤ 2)
    have one := u8At_slice (bs := imageOf s) (i := portOffset p) (by decide : 1 + 1 ≤ 2)
    rw [Nat.add_zero] at zero
    rw [← zero, ← one, slice_port]
    exact slots_read_back single
  · rw [← flyerFieldsAt_slice, ← entryAt_slice (by decide : 1 ≤ 28), slice_flyer]
    exact flyer_reads_back given
  · rw [← formationFieldsAt_slice, ← entryAt_slice (by decide : 1 ≤ 24), slice_formation]
    exact formation_reads_back given
  · obtain ⟨x, fields⟩ := given
    rw [← zoneFieldsAt_slice, slice_zone]
    exact zone_reads_back fields

end Sys2Proof.Machine
end

section
/-! The bounds of a path step: candidate speed, braking bound, points of a segment, travel and governing (R109, R111 to
R113, R115, R116). -/

namespace Sys2Proof.Machine

variable {s : State} {fs : List (FlyerId × Vec3)} {p : Travel} {here : Vec3} {dir : List Cue} {vp n : Nat} {k : PathStep}

theorem greater_eq_max (a b : Int) : greater a b = max a b := rfl

/-! ## Candidate speed and braking bound (R109, R111) -/

theorem candidateSpeed_cases (ph : Phase) (why : StopReason) (lim : Limits) (t : Nat) (v cap : Int) :
    candidateSpeed (.cueRun ph) lim t v cap =
      (if v < cap then min (v + lim.ap * t) cap else if cap < v then max (v - lim.ap * t) cap else cap) ∧
    candidateSpeed .holding lim t v cap = max (v - lim.ap * t) 0 ∧
    candidateSpeed (.stopping why) lim t v cap = max (v - lim.astop * t) 0 := by
  simp only [candidateSpeed, lesser_eq_min, greater_eq_max, Nat.cast_mul, and_self]

theorem le_rootDown_iff {s m : Nat} : m ≤ rootDown s ↔ m * m ≤ s := by
  obtain ⟨below, above⟩ := rootDown_bracket s
  constructor
  · intro small
    exact (Nat.mul_le_mul small small).trans below
  · intro small
    by_contra large
    have next : rootDown s + 1 ≤ m := by omega
    have square := Nat.mul_le_mul next next
    omega

theorem le_brakeSpeed_iff {ap : Nat} {speed dist v : Int} (d0 : 0 ≤ dist) (v0 : 0 ≤ v) :
    v ≤ brakeSpeed ap speed dist ↔ v * v ≤ speed * speed + 2 * ap * dist := by
  obtain ⟨m, rfl⟩ := Int.eq_ofNat_of_zero_le v0
  have sum0 : 0 ≤ speed * speed + 2 * (ap : Int) * dist :=
    add_nonneg (mul_self_nonneg speed) (mul_nonneg (by positivity) d0)
  unfold brakeSpeed
  rw [Int.ofNat_le, le_rootDown_iff, Int.le_toNat sum0, Nat.cast_mul]

/-- A bound on every entry of a list with a sum before it is the bound on the head and the bound on the tail. -/
theorem forall_split_cons_iff {α : Type} {x : α} {rest : List α} {P : List α → α → Prop} :
    (∀ before g after, x :: rest = before ++ g :: after → P before g) ↔
      P [] x ∧ ∀ before g after, rest = before ++ g :: after → P (x :: before) g := by
  constructor
  · intro all
    exact ⟨all [] x rest rfl, fun before g after split => all (x :: before) g after (by rw [split]; rfl)⟩
  · rintro ⟨head, tail⟩ before g after split
    cases before with
    | nil =>
      obtain ⟨rfl, -⟩ := List.cons.inj split
      exact head
    | cons y before =>
      obtain ⟨rfl, rest⟩ := List.cons.inj split
      exact tail before g after rest

/-- The braking bound is the greatest speed from which Ap reaches each cap at its place, and rest at the end. -/
theorem le_brakingBound_iff (ap : Nat) {v : Int} (v0 : 0 ≤ v) (l : List Segment) (dist : Int) (d0 : 0 ≤ dist)
    (lens : ∀ g ∈ l, 0 ≤ g.len) :
    v ≤ brakingBound ap dist l ↔
      v * v ≤ 2 * ap * (dist + (l.map fun g => g.len).sum) ∧
      ∀ before g after, l = before ++ g :: after →
        v * v ≤ g.cap * g.cap + 2 * ap * (dist + (before.map fun h => h.len).sum) := by
  induction l generalizing dist with
  | nil =>
    rw [brakingBound, le_brakeSpeed_iff d0 v0]
    simp
  | cons g rest ih =>
    obtain ⟨len0, lens⟩ := List.forall_mem_cons.mp lens
    rw [brakingBound, lesser_eq_min, le_min_iff, le_brakeSpeed_iff d0 v0, ih (dist + g.len) (by omega) lens,
      forall_split_cons_iff (P := fun before (g : Segment) =>
        v * v ≤ g.cap * g.cap + 2 * ap * (dist + (before.map fun h => h.len).sum))]
    simp only [List.map_cons, List.sum_cons, List.map_nil, List.sum_nil, add_zero, ← add_assoc]
    tauto

/-! ## The points of a segment (R112) -/

theorem roundHalfAway_zero {d : Int} (d0 : 0 < d) : roundHalfAway 0 d = 0 := by
  rw [roundHalfAway_of_nonneg d le_rfl]
  exact Int.ediv_eq_zero_of_lt (by omega) (by omega)

theorem roundHalfAway_mul_self (c : Int) {d : Int} (d0 : 0 < d) : roundHalfAway (c * d) d = c := by
  have nonneg (m : Int) (m0 : 0 ≤ m) : roundHalfAway (m * d) d = m := by
    rw [roundHalfAway_of_nonneg d (mul_nonneg m0 d0.le), show 2 * (m * d) + d = d + 2 * d * m by ring,
      Int.add_mul_ediv_left _ _ (by omega), Int.ediv_eq_zero_of_lt d0.le (by omega), zero_add]
  rcases le_total 0 c with pos | neg
  · exact nonneg c pos
  · have mirrored := nonneg (-c) (by omega)
    rw [neg_mul, roundHalfAway_neg _ d0] at mirrored
    omega

theorem add_sub_vec (a b : Vec3) : a.add (b.sub a) = b := by
  simp [Vec3.add, Vec3.sub]

theorem pointAt_ends {g : Segment} (len0 : 0 < g.len) : pointAt g g.len = g.stop ∧ pointAt g 0 = g.start := by
  simp only [pointAt, if_neg len0.ne', Vec3.map, roundHalfAway_mul_self _ len0, mul_zero, roundHalfAway_zero len0]
  exact ⟨add_sub_vec g.start g.stop, by simp [Vec3.add]⟩

/-! ## Travel (R112, R113) -/

theorem following_len_nonneg {g : Segment} {e : List Nat × Segment} (found : following dir vp g = some e) : 0 ≤ e.2.len := by
  unfold following at found
  split at found
  · cases found
  · obtain ⟨m, -, rfl⟩ := Option.map_eq_some_iff.mp found
    exact magnitude_nonneg _

/-- A travel that ends on its segment, or arrives at its end with the step cut by what it runs over. -/
structure TravelEnds (step : Int) (q : Travel) : Prop where
  progress : 0 ≤ q.d
  step_le : q.step ≤ step
  len : 0 ≤ q.seg.len
  moving : q.arrived = false → q.d < q.seg.len ∧ q.step = step
  ended : q.arrived = true → q.d = q.seg.len ∧ q.v = 0

theorem TravelEnds.of_before {step : Int} {q : Travel} (d0 : 0 ≤ q.d) (len0 : 0 ≤ q.seg.len) (same : q.step = step)
    (goes : q.arrived = false) (short : q.d < q.seg.len) : TravelEnds step q where
  progress := d0
  step_le := same.le
  len := len0
  moving _ := ⟨short, same⟩
  ended arrived := absurd goes (by simp [arrived])

theorem TravelEnds.of_arrive {step : Int} {q : Travel} (len0 : 0 ≤ q.seg.len) (same : q.step = step)
    (reached : ¬q.d < q.seg.len) : TravelEnds step q.arrive where
  progress := len0
  step_le := by
    change q.step - (q.d - q.seg.len) ≤ step
    omega
  len := len0
  moving arrived := by cases arrived
  ended _ := ⟨rfl, rfl⟩

theorem settle_ends {step : Int} (n : Nat) (p : Travel) (d0 : 0 ≤ p.d) (len0 : 0 ≤ p.seg.len) (same : p.step = step)
    (goes : p.arrived = false) : TravelEnds step (settle dir vp n p) := by
  induction n generalizing p with
  | zero =>
    unfold settle
    split
    · next short => exact .of_before d0 len0 same goes short
    · next reached => exact .of_arrive len0 same reached
  | succ n ih =>
    unfold settle
    split
    · next short => exact .of_before d0 len0 same goes short
    · next reached =>
      cases found : following dir vp p.seg with
      | none => exact .of_arrive len0 same reached
      | some e => exact ih _ (by change 0 ≤ p.d - p.seg.len; omega) (following_len_nonneg found) same goes

/-- No carry raises the speed, and an arrival makes it 0. -/
theorem settle_v_le (n : Nat) (p : Travel) : (settle dir vp n p).v ≤ p.v ∨ (settle dir vp n p).v = 0 := by
  induction n generalizing p with
  | zero =>
    unfold settle
    split
    · exact .inl le_rfl
    · exact .inr rfl
  | succ n ih =>
    unfold settle
    split
    · exact .inl le_rfl
    · cases following dir vp p.seg with
      | none => exact .inr rfl
      | some e => exact (ih _).imp (fun slower => slower.trans (min_le_left p.v e.2.cap)) id

theorem travel_ends {step : Int} (len0 : 0 ≤ p.seg.len) (d0 : 0 ≤ p.d + step) (goes : p.arrived = false) :
    TravelEnds step (travel dir vp p step) := settle_ends _ _ d0 len0 rfl goes

theorem travel_v_le {step : Int} (v0 : 0 ≤ p.v) : (travel dir vp p step).v ≤ p.v :=
  (settle_v_le _ { p with d := p.d + step, step := step }).elim id fun rest => rest.trans_le v0

/-! ## Governing (R115, R116) -/

/-- No line of a member with a committed length changes by more than Vline times T. -/
def LinesWithin (s : State) (ls : List (AxisId × AxisParams × Int)) : Prop :=
  ∀ l ∈ ls, ∀ c, (s.axis l.1).committed = some c → (l.2.2 - c).natAbs ≤ l.2.1.vline * s.t

theorem governingLine_eq_none_iff (s : State) (ls : List (AxisId × AxisParams × Int)) :
    governingLine (lineSteps s ls) = none ↔ LinesWithin s ls := by
  rw [← Option.not_isSome_iff_eq_none, governingLine_isSome, any_lineSteps, Bool.not_eq_true, List.any_eq_false]
  refine forall₂_congr fun l _ => ?_
  cases (s.axis l.1).committed with
  | none => simp
  | some c => simp

/-- What governing lets through: every line within its limit at a point that passes the geometric condition, or no step
at all, and no higher speed than the frame began with. -/
def LetThrough (s : State) (fs : List (FlyerId × Vec3)) (p : Travel) (here : Vec3) (k : PathStep) : Prop :=
  (LinesWithin s (allLengths s (memberPoints fs k.point)) ∧ geometryFault s (memberPoints fs k.point) = none ∨
    k.point = here ∧ k.went.v = 0 ∧ k.went.step = 0) ∧ k.went.v ≤ p.v

theorem governed_letThrough (v0 : 0 ≤ p.v) (n : Nat) (took : Bool) (step : Int)
    (taken : governed s fs vp p here n took step = .ok k) : LetThrough s fs p here k := by
  have slower := travel_v_le (dir := s.dir) (vp := vp) (step := step) v0
  unfold governed at taken
  dsimp only at taken
  split at taken
  · cases taken
  · next passes =>
    split at taken
    · next quiet =>
      cases taken
      refine ⟨.inl ⟨(governingLine_eq_none_iff _ _).mp quiet, passes⟩, ?_⟩
      cases took with
      | true => exact (min_le_right _ _).trans slower
      | false => exact slower
    · next g _ =>
      match n with
      | 0 =>
        cases taken
        exact ⟨.inr ⟨rfl, rfl, rfl⟩, v0⟩
      | m + 1 => exact governed_letThrough v0 m true _ taken
end Sys2Proof.Machine
end

section
/-! The limits of a jog step: the common volume, the candidate held in it, turned aside from zones, and blocked or
governed (R129 to R134). -/

namespace Sys2Proof.Machine

variable {s before : State} {fs : List (FlyerId × Vec3)} {here p c ring : Vec3} {b : Box} {r : Rig} {j k l : JogStep}
  {i m : Fin 3}

/-! ## Components of a vector -/

theorem component_withComponent (v : Vec3) (c : Int) (i m : Fin 3) :
    component (withComponent v c i) m = if m = i then c else component v m := by
  match i, m with
  | 0, 0 | 0, 1 | 0, 2 | 1, 0 | 1, 1 | 1, 2 | 2, 0 | 2, 1 | 2, 2 => rfl

theorem component_withComponent_same (v : Vec3) (c : Int) (i : Fin 3) : component (withComponent v c i) i = c := by
  rw [component_withComponent, if_pos rfl]

theorem component_withComponent_other (v : Vec3) (c : Int) (other : m ≠ i) :
    component (withComponent v c i) m = component v m := by
  rw [component_withComponent, if_neg other]

theorem eq_of_components {v w : Vec3} (same : ∀ i, component v i = component w i) : v = w := by
  obtain ⟨x, y, z⟩ := v
  obtain ⟨x', y', z'⟩ := w
  obtain rfl : x = x' := same 0
  obtain rfl : y = y' := same 1
  obtain rfl : z = z' := same 2
  rfl

/-! ## Boxes (R47, R134) -/

/-- A component of a ring point within a box. -/
def Box.inside (b : Box) (p : Vec3) (i : Fin 3) : Prop :=
  1000 * component b.lo i ≤ component p i ∧ component p i ≤ 1000 * component b.hi i

theorem holds_iff_inside : b.holds p = true ↔ ∀ i, b.inside p i := by
  simp [Box.holds, Box.inside, Fin.forall_fin_succ, component, and_assoc]

theorem inside_meet {a : Box} : (a.meet b).inside p i ↔ a.inside p i ∧ b.inside p i := by
  match i with
  | 0 | 1 | 2 => simp only [Box.inside, Box.meet, component, greater_eq_max, lesser_eq_min]; omega

theorem holds_meet {a : Box} : (a.meet b).holds p = true ↔ a.holds p = true ∧ b.holds p = true := by
  simp only [holds_iff_inside, inside_meet, forall_and]

theorem holds_commonVolume (s : State) (own : Box) (fs : List (FlyerId × Vec3)) (p : Vec3) :
    (commonVolume s own fs).holds p = true ↔
      own.holds p = true ∧ ∀ e ∈ fs, ∀ d, (s.flyer e.1).defn = some d → (d.volume.shifted e.2).holds p = true := by
  induction fs generalizing own with
  | nil => exact (and_iff_left (by simp)).symm
  | cons e rest ih =>
    refine (ih _).trans ?_
    rw [List.forall_mem_cons]
    cases held : (s.flyer e.1).defn with
    | none => simp [held]
    | some d => simp [held, holds_meet, and_assoc]

/-! ## The candidate held in the volume (R129) -/

/-- Each component stands as it stood, or has no velocity left. -/
def JogStep.Kept (k j : JogStep) : Prop :=
  ∀ i, component k.cand i = component j.cand i ∧ component k.v i = component j.v i ∨ component k.v i = 0

theorem JogStep.Kept.refl (j : JogStep) : j.Kept j := fun _ => .inl ⟨rfl, rfl⟩

theorem JogStep.Kept.trans (later : l.Kept k) (first : k.Kept j) : l.Kept j := by
  intro i
  rcases later i with ⟨cand, v⟩ | rest
  · rw [cand, v]
    exact first i
  · exact .inr rest

/-- A component replaced with its velocity made 0, and AT_LIMIT set. -/
def JogStep.limited (j : JogStep) (c : Int) (i : Fin 3) : JogStep :=
  { j with cand := withComponent j.cand c i, v := withComponent j.v 0 i, atLimit := true }

theorem returnComponent_eq (here : Vec3) (i : Fin 3) (j : JogStep) :
    returnComponent here i j = j.limited (component here i) i := rfl

theorem limited_same (j : JogStep) (c : Int) (i : Fin 3) : component (j.limited c i).cand i = c :=
  component_withComponent_same j.cand c i

theorem limited_other (j : JogStep) (c : Int) (other : m ≠ i) :
    component (j.limited c i).cand m = component j.cand m := component_withComponent_other j.cand c other

theorem limited_kept (j : JogStep) (c : Int) (i : Fin 3) : (j.limited c i).Kept j := by
  intro m
  by_cases same : m = i
  · exact .inr (by rw [same]; exact component_withComponent_same j.v 0 i)
  · exact .inl ⟨component_withComponent_other j.cand c same, component_withComponent_other j.v 0 same⟩

/-- A clamped component is left alone within the box, and otherwise goes to the corner it has passed. -/
theorem clampComponent_cases (b : Box) (ring : Vec3) (i : Fin 3) (j : JogStep) :
    b.inside ring i ∧ clampComponent b ring i j = j ∨
      ¬b.inside ring i ∧ ∃ c, (c = component b.lo i ∨ c = component b.hi i) ∧
        clampComponent b ring i j = j.limited (1000000 * c) i := by
  unfold clampComponent
  split
  · next below => exact .inr ⟨fun inside => by have := inside.1; omega, _, .inl rfl, rfl⟩
  · next low =>
    split
    · next above => exact .inr ⟨fun inside => by have := inside.2; omega, _, .inr rfl, rfl⟩
    · next high => exact .inl ⟨⟨not_lt.mp low, not_lt.mp high⟩, rfl⟩

theorem clampComponent_kept (b : Box) (ring : Vec3) (i : Fin 3) (j : JogStep) : (clampComponent b ring i j).Kept j := by
  obtain ⟨-, same⟩ | ⟨-, c, -, same⟩ := clampComponent_cases b ring i j
  · rw [same]
    exact .refl j
  · rw [same]
    exact limited_kept j _ i

theorem clampComponent_of_inside (inside : b.inside ring i) : clampComponent b ring i j = j := by
  obtain ⟨-, same⟩ | ⟨out, -⟩ := clampComponent_cases b ring i j
  · exact same
  · exact absurd inside out

theorem atLimit_clampComponent (warned : ¬b.inside ring i ∨ j.atLimit = true) :
    (clampComponent b ring i j).atLimit = true := by
  obtain ⟨inside, same⟩ | ⟨-, c, -, same⟩ := clampComponent_cases b ring i j
  · rw [same]
    exact warned.resolve_left (not_not_intro inside)
  · rw [same]
    rfl

theorem clampComponent_other (other : m ≠ i) :
    component (clampComponent b ring i j).cand m = component j.cand m := by
  obtain ⟨-, same⟩ | ⟨-, c, -, same⟩ := clampComponent_cases b ring i j
  · rw [same]
  · rw [same]
    exact limited_other j _ other

theorem roundHalfAway_million (c : Int) : roundHalfAway (1000000 * c) 1000 = 1000 * c := by
  rw [show 1000000 * c = 1000 * c * 1000 by ring, roundHalfAway_mul_self _ (by norm_num)]

/-- A component clamped by its own rounded value lies within a box that holds any point at all. -/
theorem clampComponent_inside (proper : component b.lo i ≤ component b.hi i)
    (own : component ring i = roundHalfAway (component j.cand i) 1000) :
    1000 * component b.lo i ≤ roundHalfAway (component (clampComponent b ring i j).cand i) 1000 ∧
      roundHalfAway (component (clampComponent b ring i j).cand i) 1000 ≤ 1000 * component b.hi i := by
  obtain ⟨inside, same⟩ | ⟨-, c, corner, same⟩ := clampComponent_cases b ring i j
  · rw [same, ← own]
    exact inside
  · rw [same, limited_same,
      roundHalfAway_million]
    rcases corner with rfl | rfl <;> omega

theorem proper_of_holds (met : b.holds p = true) (i : Fin 3) : component b.lo i ≤ component b.hi i := by
  obtain ⟨low, high⟩ := holds_iff_inside.mp met i
  omega

/-! ### Ring points by rig kind (R9) -/

theorem ringPoint_spatial (spatial : r.kind.spatial = true) : ringPoint r p = roundPoint p := by
  unfold ringPoint ringOfRounded
  cases kind : r.kind <;> simp_all [RigKind.spatial]

theorem component_ringPoint_spatial (spatial : r.kind.spatial = true) (i : Fin 3) :
    component (ringPoint r p) i = roundHalfAway (component p i) 1000 := by
  rw [ringPoint_spatial spatial]
  match i with
  | 0 | 1 | 2 => rfl

/-- The height of the ring is that of the point, whatever the rig. -/
theorem component_ringPoint_height (r : Rig) (p : Vec3) :
    component (ringPoint r p) 2 = roundHalfAway (component p 2) 1000 := by
  unfold ringPoint ringOfRounded
  split <;> rfl

/-- The ring of a vertical rig hangs below its anchor. -/
theorem component_ringPoint_vertical {q : Vec3} (kind : r.kind = .vertical) (lines : 1 ≤ r.lines.length)
    (flat : i ≠ 2) : component (ringPoint r p) i = component (ringPoint r q) i := by
  obtain ⟨l, rest, split⟩ := List.exists_cons_of_length_pos lines
  have anchors : r.anchors = l.2.anchor :: rest.map fun x => x.2.anchor := by rw [Rig.anchors, split]; rfl
  simp only [ringPoint, ringOfRounded, kind, anchors]
  match i with
  | 0 | 1 => rfl
  | 2 => exact absurd rfl flat

/-- The ring of a planar rig stands in its plane by the first component alone. -/
theorem component_ringPoint_planar {q : Vec3} (kind : r.kind = .planar) (lines : 2 ≤ r.lines.length) (flat : i ≠ 2)
    (same : component p 0 = component q 0) : component (ringPoint r p) i = component (ringPoint r q) i := by
  obtain ⟨l, m, rest, split⟩ : ∃ l m rest, r.lines = l :: m :: rest := by
    match r.lines, lines with
    | l :: m :: rest, _ => exact ⟨l, m, rest, rfl⟩
  have anchors : r.anchors = l.2.anchor :: m.2.anchor :: rest.map fun x => x.2.anchor := by
    rw [Rig.anchors, split]; rfl
  have rounded : (roundPoint p).x = (roundPoint q).x := congrArg (roundHalfAway · 1000) same
  simp only [ringPoint, ringOfRounded, kind, anchors, rounded]
  match i with
  | 0 | 1 => rfl
  | 2 => exact absurd rfl flat

/-! ### The three kinds of rig -/

/-- What R129 asks of the candidate it leaves. -/
structure JogStep.HeldIn (r : Rig) (b : Box) (j k : JogStep) : Prop where
  holds : b.holds (ringPoint r k.cand) = true
  untouched : b.holds (ringPoint r j.cand) = true → k = j
  warned : b.holds (ringPoint r j.cand) = false → k.atLimit = true
  kept : k.Kept j

theorem not_inside_of_not_holds (out : b.holds p = false) : ∃ i, ¬b.inside p i := by
  rw [← not_forall, ← holds_iff_inside, out]
  decide

theorem holdInVolume_vertical (kind : r.kind = .vertical) (lines : 1 ≤ r.lines.length)
    (start : b.holds (ringPoint r here) = true) : JogStep.HeldIn r b j (clampComponent b (ringPoint r j.cand) 2 j) := by
  have flat {q : Vec3} {i : Fin 3} (i2 : i ≠ 2) : b.inside (ringPoint r q) i := by
    unfold Box.inside
    rw [component_ringPoint_vertical kind lines i2 (q := here)]
    exact holds_iff_inside.mp start i
  refine ⟨holds_iff_inside.mpr fun i => ?_, fun inside => ?_, fun out => ?_, clampComponent_kept _ _ _ _⟩
  · by_cases i2 : i = 2
    · unfold Box.inside
      rw [i2, component_ringPoint_height]
      exact clampComponent_inside (proper_of_holds start 2) (component_ringPoint_height ..)
    · exact flat i2
  · exact clampComponent_of_inside (holds_iff_inside.mp inside 2)
  · obtain ⟨i, out⟩ := not_inside_of_not_holds out
    obtain rfl : i = 2 := by_contra fun i2 => out (flat i2)
    exact atLimit_clampComponent (.inl out)

theorem holdInVolume_spatial (spatial : r.kind.spatial = true) (start : b.holds (ringPoint r here) = true) :
    let ring := ringPoint r j.cand
    JogStep.HeldIn r b j (clampComponent b ring 2 (clampComponent b ring 1 (clampComponent b ring 0 j))) := by
  intro ring
  have rounded := component_ringPoint_spatial spatial (p := j.cand)
  refine ⟨holds_iff_inside.mpr fun i => ?_, fun inside => ?_, fun out => ?_,
    (clampComponent_kept _ _ _ _).trans ((clampComponent_kept _ _ _ _).trans (clampComponent_kept _ _ _ _))⟩
  · unfold Box.inside
    rw [component_ringPoint_spatial spatial]
    match i with
    | 0 =>
      rw [clampComponent_other (by decide), clampComponent_other (by decide)]
      exact clampComponent_inside (proper_of_holds start 0) (rounded 0)
    | 1 =>
      rw [clampComponent_other (by decide)]
      exact clampComponent_inside (proper_of_holds start 1)
        (by rw [clampComponent_other (by decide)]; exact rounded 1)
    | 2 =>
      exact clampComponent_inside (proper_of_holds start 2)
        (by rw [clampComponent_other (by decide), clampComponent_other (by decide)]; exact rounded 2)
  · have within := holds_iff_inside.mp inside
    rw [clampComponent_of_inside (within 0), clampComponent_of_inside (within 1), clampComponent_of_inside (within 2)]
  · obtain ⟨i, out⟩ := not_inside_of_not_holds out
    match i with
    | 0 => exact atLimit_clampComponent (.inr (atLimit_clampComponent (.inr (atLimit_clampComponent (.inl out)))))
    | 1 => exact atLimit_clampComponent (.inr (atLimit_clampComponent (.inl out)))
    | 2 => exact atLimit_clampComponent (.inl out)

theorem outsideInPlane_iff : outsideInPlane b ring = true ↔ ¬(b.inside ring 0 ∧ b.inside ring 1) := by
  simp only [outsideInPlane, Box.inside, component, decide_eq_true_iff]
  omega

theorem holdInVolume_planar (kind : r.kind = .planar) (lines : 2 ≤ r.lines.length)
    (start : b.holds (ringPoint r here) = true) :
    let ring := ringPoint r j.cand
    let k := clampComponent b ring 2 j
    JogStep.HeldIn r b j (if outsideInPlane b ring then returnComponent here 0 k else k) := by
  intro ring k
  have height : 1000 * component b.lo 2 ≤ roundHalfAway (component k.cand 2) 1000 ∧
      roundHalfAway (component k.cand 2) 1000 ≤ 1000 * component b.hi 2 :=
    clampComponent_inside (proper_of_holds start 2) (component_ringPoint_height ..)
  split
  · next out =>
    refine ⟨holds_iff_inside.mpr fun i => ?_, fun inside => ?_, fun _ => rfl,
      (limited_kept k _ 0).trans (clampComponent_kept _ _ _ _)⟩
    · unfold Box.inside
      by_cases i2 : i = 2
      · rw [i2, component_ringPoint_height, returnComponent_eq, limited_other k _ (by decide)]
        exact height
      · rw [returnComponent_eq, component_ringPoint_planar kind lines i2 (q := here) (limited_same k _ 0)]
        exact holds_iff_inside.mp start i
    · have within := holds_iff_inside.mp inside
      exact absurd ⟨within 0, within 1⟩ (outsideInPlane_iff.mp out)
  · next in_ =>
    obtain ⟨in0, in1⟩ : b.inside ring 0 ∧ b.inside ring 1 := not_not.mp (mt outsideInPlane_iff.mpr in_)
    refine ⟨holds_iff_inside.mpr fun i => ?_, fun inside => ?_, fun out => ?_, clampComponent_kept _ _ _ _⟩
    · unfold Box.inside
      by_cases i2 : i = 2
      · rw [i2, component_ringPoint_height]
        exact height
      · rw [component_ringPoint_planar kind lines i2 (q := j.cand) (clampComponent_other (by decide))]
        match i with
        | 0 => exact in0
        | 1 => exact in1
        | 2 => exact absurd rfl i2
    · exact clampComponent_of_inside (holds_iff_inside.mp inside 2)
    · obtain ⟨i, out⟩ := not_inside_of_not_holds out
      match i with
      | 0 => exact absurd in0 out
      | 1 => exact absurd in1 out
      | 2 => exact atLimit_clampComponent (.inl out)

theorem holdInVolume_heldIn (start : b.holds (ringPoint r here) = true)
    (vertical : r.kind = .vertical → 1 ≤ r.lines.length) (planar : r.kind = .planar → 2 ≤ r.lines.length) : JogStep.HeldIn r b j (holdInVolume r b here j) := by
  unfold holdInVolume
  dsimp only
  split
  · next kind => exact holdInVolume_vertical kind (vertical kind) start
  · next kind => exact holdInVolume_planar kind (planar kind) start
  · next kind => exact holdInVolume_spatial (by rw [kind]; rfl) start
  · next kind => exact holdInVolume_spatial (by rw [kind]; rfl) start

/-! ## The candidate turned aside (R130) -/

theorem atLimit_turnAside (comps : List (Fin 3)) (warned : j.atLimit = true) :
    (turnAside s fs here comps j).atLimit = true := by
  induction comps generalizing j with
  | nil => exact warned
  | cons i rest ih =>
    rw [turnAside]
    split
    · split
      · exact ih warned
      · exact ih rfl
    · exact warned

theorem turnAside_of_clear (comps : List (Fin 3)) (clear : entersZone s fs here j.cand = false) :
    turnAside s fs here comps j = j := by
  cases comps with
  | nil => rfl
  | cons i rest => rw [turnAside, if_neg (by rw [clear]; decide)]

/-- Each component stands as it stood, or has returned to the point with no velocity left. -/
def JogStep.Returned (here : Vec3) (k j : JogStep) : Prop :=
  ∀ i, component k.cand i = component j.cand i ∧ component k.v i = component j.v i ∨
    component k.cand i = component here i ∧ component k.v i = 0

theorem JogStep.Returned.of_returnComponent (later : k.Returned here (returnComponent here m j)) :
    k.Returned here j := by
  intro i
  rcases later i with ⟨cand, v⟩ | back
  · by_cases same : i = m
    · rw [same] at cand v ⊢
      exact .inr ⟨cand.trans (limited_same j _ m), v.trans (component_withComponent_same j.v 0 m)⟩
    · exact .inl ⟨cand.trans (limited_other j _ same), v.trans (component_withComponent_other j.v 0 same)⟩
  · exact .inr back

theorem turnAside_returned (comps : List (Fin 3)) (j : JogStep) :
    (turnAside s fs here comps j).Returned here j := by
  induction comps generalizing j with
  | nil => exact fun i => .inl ⟨rfl, rfl⟩
  | cons m rest ih =>
    rw [turnAside]
    split
    · split
      · exact ih j
      · exact (ih _).of_returnComponent
    · exact fun i => .inl ⟨rfl, rfl⟩

/-- With every component in which it differs from the point weighed, the candidate enters no zone, and one that did
leaves AT_LIMIT behind. -/
theorem turnAside_clear (start : entersZone s fs here here = false) (comps : List (Fin 3)) (j : JogStep)
    (others : ∀ i, i ∉ comps → component j.cand i = component here i) :
    entersZone s fs here (turnAside s fs here comps j).cand = false ∧
      (entersZone s fs here j.cand = true → (turnAside s fs here comps j).atLimit = true) := by
  induction comps generalizing j with
  | nil =>
    have stays : j.cand = here := eq_of_components fun i => others i List.not_mem_nil
    have clear : entersZone s fs here j.cand = false := stays ▸ start
    exact ⟨clear, fun enters => absurd enters (by rw [clear]; decide)⟩
  | cons m rest ih =>
    have elsewhere {i : Fin 3} (i_m : i ≠ m) (i_rest : i ∉ rest) : component j.cand i = component here i :=
      others i (List.not_mem_cons_of_ne_of_not_mem i_m i_rest)
    rw [turnAside]
    split
    · next enters =>
      split
      · next level =>
        refine ih j fun i i_rest => ?_
        by_cases i_m : i = m
        · rw [i_m]
          exact level
        · exact elsewhere i_m i_rest
      · refine ⟨(ih _ fun i i_rest => ?_).1, fun _ => atLimit_turnAside rest rfl⟩
        by_cases i_m : i = m
        · rw [i_m, returnComponent_eq]
          exact limited_same j _ m
        · exact (limited_other j _ i_m).trans (elsewhere i_m i_rest)
    · next clear => exact ⟨Bool.eq_false_iff.mpr clear, fun enters => absurd enters clear⟩

/-! ## Blocking and governing (R131 to R133) -/

/-- A step made 0. -/
def JogStep.Blocked (here : Vec3) (k : JogStep) : Prop := k.cand = here ∧ k.v = Vec3.zero

/-- What governing lets through: points within the limits, each line within Vline times T, the step as it was or its
velocity read off the candidate. -/
structure JogStep.Let (s : State) (fs : List (FlyerId × Vec3)) (here : Vec3) (j k : JogStep) : Prop where
  limits : limitsFail s (memberPoints fs k.cand) = false
  lines : LinesWithin s (allLengths s (memberPoints fs k.cand))
  as_was : k.governed = false → k = j
  read_off : k.governed = true → k.v = (k.cand.sub here).map fun c => towardZero c s.t

theorem governJog_let (n : Nat) (j : JogStep) (passes : limitsFail s (memberPoints fs j.cand) = false) :
    (governJog s fs here n j).Blocked here ∨ JogStep.Let s fs here j (governJog s fs here n j) := by
  unfold governJog
  split
  · next quiet =>
    have lines := (governingLine_eq_none_iff _ _).mp quiet
    split
    · next took =>
      exact .inr ⟨passes, lines, fun not_ => absurd (took.symm.trans not_) (by decide), fun _ => rfl⟩
    · next free => exact .inr ⟨passes, lines, fun _ => rfl, fun took => absurd took free⟩
  · next g _ =>
    match n with
    | 0 => exact .inl ⟨rfl, rfl⟩
    | n + 1 =>
      dsimp only
      split
      · exact .inl ⟨rfl, rfl⟩
      · next clear =>
        refine (governJog_let n _ (Bool.eq_false_iff.mpr clear)).imp_right fun pass => ?_
        refine ⟨pass.limits, pass.lines, fun not_ => ?_, pass.read_off⟩
        have governed_ := not_
        rw [pass.as_was not_] at governed_
        cases governed_

theorem limitJog_of_fail (fails : limitsFail s (memberPoints fs j.cand) = true) :
    (limitJog before s fs here j).Blocked here ∧ (limitJog before s fs here j).atLimit = true := by
  unfold limitJog
  dsimp only
  rw [if_pos fails]
  split
  · exact ⟨⟨rfl, rfl⟩, rfl⟩
  · exact ⟨⟨rfl, rfl⟩, rfl⟩

theorem limitJog_let (before s : State) (fs : List (FlyerId × Vec3)) (here : Vec3) (j : JogStep) :
    (limitJog before s fs here j).Blocked here ∨
      separationFailure before (memberPoints fs (limitJog before s fs here j).cand) = none ∧
      JogStep.Let s fs here j (limitJog before s fs here j) := by
  by_cases fails : limitsFail s (memberPoints fs j.cand) = true
  · exact .inl (limitJog_of_fail fails).1
  · unfold limitJog
    dsimp only
    rw [if_neg fails]
    split
    · exact .inl ⟨rfl, rfl⟩
    · next apart =>
      exact (governJog_let 3 j (Bool.eq_false_iff.mpr fails)).imp_right fun pass =>
        ⟨Option.not_isSome_iff_eq_none.mp apart, pass⟩

/-! ## The obligation -/

/-- Settles O52: the braking bound by induction on the window, the travel by induction on the carries, governing by its
passes, and the limits of a jog component by component. -/
theorem pathStepsKeepTheirBounds : Obligations.PathStepsKeepTheirBounds := by
  unfold Obligations.PathStepsKeepTheirBounds
  refine ⟨candidateSpeed_cases, fun ap dist l v d0 lens v0 => le_brakingBound_iff ap v0 l dist d0 lens,
    fun g => pointAt_ends, fun dir vp p step len0 d0 v0 goes => ?travel,
    fun s fs vp p here step k taken v0 => governed_letThrough v0 3 false step taken, holds_commonVolume,
    fun r b here j start vertical planar => ?volume, fun s fs here kind j start others => ?zones,
    fun before s fs here j _ => ?limits⟩
  case travel =>
    have ends := travel_ends (dir := dir) (vp := vp) len0 d0 goes
    exact ⟨ends.progress, ends.step_le, travel_v_le v0, ends.len, ends.moving, ends.ended⟩
  case volume =>
    have held := holdInVolume_heldIn (j := j) start vertical planar
    exact ⟨held.holds, held.untouched, held.warned, held.kept⟩
  case zones =>
    obtain ⟨clear, warned⟩ := turnAside_clear start (componentsOf kind) j others
    exact ⟨clear, turnAside_of_clear _, warned, turnAside_returned _ j⟩
  case limits =>
    refine ⟨(limitJog_let before s fs here j).imp_right ?_, fun fails => ?_⟩
    · rintro ⟨apart, pass⟩
      exact ⟨pass.limits, apart, pass.lines, pass.as_was, pass.read_off⟩
    · obtain ⟨⟨stays, still⟩, warned⟩ := limitJog_of_fail (before := before) fails
      exact ⟨stays, still, warned⟩
end Sys2Proof.Machine
end

section
/-! The end of start-up on a state that holds the configuration: the shadows aligned, the axes mapped, the stop chain
read (R46, R155, R174, R192). -/

namespace Sys2Proof.Machine

variable {o s t u : State} {a : AxisId} {p : PortId}

theorem mem_allAxes (a : AxisId) : a ∈ allAxes := by fin_cases a <;> decide

/-! ## What a reset leaves beside the configuration -/

/-- Every piece of state that is not configuration stands at its reset value, each flyer as its definition has it, and
the flash and the stop chain as they stood in `o`. -/
structure Bare (o s : State) : Prop where
  axis : ∀ a, s.axis a = { Axis.initial with params := (s.axis a).params }
  port : ∀ p, s.port p = { Port.initial with active := (s.port p).active, shadow := (s.port p).shadow }
  flyer : ∀ f, s.flyer f =
    { Flyer.initial with
      defn := (s.flyer f).defn, rig := (s.flyer f).rig
      state := if (s.flyer f).defn.isSome then .unready else .undefined }
  grant : ∀ f, s.grant f = Grant.initial
  station : ∀ st, s.station st = StationPort.initial
  calm : s.allStop = none
  uncut : s.cutCount = 0
  clock : s.clock = 0
  image : s.image = .idle
  saveStep : s.saveStep = 0
  saveData : s.saveData = []
  flash : s.flash = o.flash
  chain : s.chainOpen = o.chainOpen

theorem bare_poweredOn (s : State) : Bare s (poweredOn s) where
  axis a := by
    rw [show (poweredOn s).axis a = Axis.initial from Vector.getElem_replicate a.isLt]
  port p := by
    rw [show (poweredOn s).port p = Port.initial from Vector.getElem_replicate p.isLt]
  flyer f := by
    rw [flyer_poweredOn]
    rfl
  grant := grant_poweredOn s
  station st := by cases st <;> rfl
  calm := rfl
  uncut := rfl
  clock := rfl
  image := rfl
  saveStep := rfl
  saveData := rfl
  flash := rfl
  chain := rfl

theorem bare_warmed (s : State) : Bare s (warmed s) where
  axis a := by
    rw [axis_warmed]
    rfl
  port p := by
    rw [port_warmed]
    rfl
  flyer f := by
    rw [flyer_warmed]
    rfl
  grant := grant_warmed s
  station st := by cases st <;> rfl
  calm := rfl
  uncut := rfl
  clock := rfl
  image := rfl
  saveStep := rfl
  saveData := rfl
  flash := rfl
  chain := rfl

/-! ## Shadows and mappings (R155, R195) -/

theorem port_forEach_alignShadow (l : List PortId) (s : State) (p : PortId) :
    (forEach l alignShadow s).port p = if p ∈ l then { s.port p with shadow := (s.port p).active } else s.port p := by
  induction l generalizing s with
  | nil => rfl
  | cons q l ih =>
    rw [forEach_cons, ih, port_alignShadow]
    by_cases same : q = p
    · simp [same]
    · simp [same, Ne.symm same]

theorem forEach_alignShadow_frame (l : List PortId) (s : State) : ∃ P, forEach l alignShadow s = { s with ports := P } := by
  refine forEach_rel (fun s t => ∃ P, t = { s with ports := P }) (fun s => ⟨s.ports, rfl⟩) ?_ _ l (fun _ _ _ => ⟨_, rfl⟩) s
  rintro _ _ _ ⟨_, rfl⟩ ⟨P, rfl⟩
  exact ⟨P, rfl⟩

/-- The state of an axis by its mapping (R46). -/
def mappedState (s : State) (a : AxisId) : AxisState := if (portOfAxis s a).isSome then .unreferenced else .unmapped

theorem mappedState_eq (s : State) (a : AxisId) :
    mappedState s a = if ∃ p, (s.port p).active.has a = true then .unreferenced else .unmapped := by
  have mapped : (portOfAxis s a).isSome = true ↔ ∃ p, (s.port p).active.has a = true := by
    rw [portOfAxis, List.find?_isSome]
    exact exists_congr fun p => and_iff_right (mem_allPorts p)
  exact if_congr mapped rfl rfl

theorem axis_forEach_mapAxis (l : List AxisId) (s : State) (a : AxisId) :
    (forEach l mapAxis s).axis a = if a ∈ l then { s.axis a with state := mappedState s a } else s.axis a := by
  induction l generalizing s with
  | nil => rfl
  | cons b l ih =>
    have stands : mappedState (mapAxis b s) a = mappedState s a := rfl
    have head : (mapAxis b s).axis a = if b = a then { s.axis a with state := mappedState s a } else s.axis a := by
      refine (axis_modAxis b a _ s).trans ?_
      by_cases same : b = a
      · rw [if_pos same, if_pos same, same]
        rfl
      · rw [if_neg same, if_neg same]
    rw [forEach_cons, ih, stands, head]
    by_cases same : b = a
    · simp [same]
    · simp [same, Ne.symm same]

theorem forEach_mapAxis_frame (l : List AxisId) (s : State) : ∃ A, forEach l mapAxis s = { s with axes := A } := by
  refine forEach_rel (fun s t => ∃ A, t = { s with axes := A }) (fun s => ⟨s.axes, rfl⟩) ?_ _ l (fun _ _ _ => ⟨_, rfl⟩) s
  rintro _ _ _ ⟨_, rfl⟩ ⟨A, rfl⟩
  exact ⟨A, rfl⟩

/-! ## The stop chain and the end (R174, R192) -/

/-- The entry of an open chain at start-up. -/
def chainEntry : LogEntry :=
  { time := 0, code := .estopChain, cls := .allStop, flyer := none, axis := none, station := none, port := none,
    detail := .none }

/-- What the end of start-up makes of the state that holds the configuration. -/
structure Started (s t : State) : Prop where
  frame : t =
    { s with
      axes := t.axes, ports := t.ports, grants := t.grants, allStop := t.allStop, cutCount := t.cutCount, log := t.log
      alarm := t.alarm, startup := .running, clock := 0 }
  axis : ∀ a, t.axis a = { s.axis a with state := mappedState s a }
  port : ∀ p, t.port p = { s.port p with shadow := (s.port p).active }
  grant : ∀ f, t.grant f = Grant.initial
  uncut : t.cutCount = 0
  allStop : t.allStop = if s.chainOpen = true then some chainStop else none
  alarm : t.alarm = true ↔ s.chainOpen = true
  log : t.log = if s.chainOpen = true then logAfter s.logMode s.log chainEntry else s.log

theorem readChain_eq (calm : s.allStop = none) (uncut : s.cutCount = 0) (clock : s.clock = 0) :
    readChain s =
      { s with
        allStop := if s.chainOpen = true then some chainStop else none
        log := if s.chainOpen = true then logAfter s.logMode s.log chainEntry else s.log } := by
  unfold readChain
  split
  · unfold logCause logEntry
    rw [clock, uncut]
    rfl
  · rw [← calm]

/-- A flyer that start-up leaves is not FAULTED. -/
theorem Bare.state_ne_faulted (bare : Bare o s) (f : FlyerId) : (s.flyer f).state ≠ .faulted := by
  rw [bare.flyer f]
  dsimp only
  split <;> decide

/-- The state whose end is that of start-up: configuration, shadows, mappings and chain in place. -/
theorem before_finish (bare : Bare o s) :
    ∃ A P, startRunning s = finish
        { s with
          axes := A, ports := P, allStop := if s.chainOpen = true then some chainStop else none
          log := if s.chainOpen = true then logAfter s.logMode s.log chainEntry else s.log
          clock := 0, startup := .running } ∧
      (∀ a, A[a] = { s.axis a with state := mappedState s a }) ∧
      ∀ p, P[p] = { s.port p with shadow := (s.port p).active } := by
  obtain ⟨P, aligned⟩ := forEach_alignShadow_frame allPorts s
  obtain ⟨A, mapped⟩ := forEach_mapAxis_frame allAxes (forEach allPorts alignShadow s)
  have port (p : PortId) : P[p] = { s.port p with shadow := (s.port p).active } := by
    have each := port_forEach_alignShadow allPorts s p
    rw [if_pos (mem_allPorts p), aligned] at each
    exact each
  have place (a : AxisId) : mappedState (forEach allPorts alignShadow s) a = mappedState s a := by
    simp only [mappedState_eq, port_forEach_alignShadow, mem_allPorts, if_true]
  have axis (a : AxisId) : A[a] = { s.axis a with state := mappedState s a } := by
    have each := axis_forEach_mapAxis allAxes (forEach allPorts alignShadow s) a
    rw [if_pos (mem_allAxes a), place, mapped, aligned] at each
    exact each
  refine ⟨A, P, ?_, axis, port⟩
  unfold startRunning
  dsimp only
  rw [mapped, aligned, readChain_eq (s := { s with ports := P, axes := A }) bare.calm bare.uncut bare.clock]

theorem startRunning_started (bare : Bare o s) : Started s (startRunning s) := by
  obtain ⟨A, P, whole, axis, port⟩ := before_finish bare
  rw [whole]
  set v : State := { s with
    axes := A, ports := P, allStop := if s.chainOpen = true then some chainStop else none
    log := if s.chainOpen = true then logAfter s.logMode s.log chainEntry else s.log
    clock := 0, startup := .running } with v_eq
  have alarm : alarmLine v = true ↔ s.chainOpen = true := by
    rw [alarmLine_eq_true_iff]
    constructor
    · rintro (stopped | ⟨f, faulted⟩)
      · by_contra closed
        exact stopped (if_neg closed)
      · exact absurd faulted (bare.state_ne_faulted f)
    · intro opened
      refine .inl ?_
      rw [show v.allStop = some chainStop from if_pos opened]
      exact Option.some_ne_none _
  have grant (f : FlyerId) : (finish v).grant f = Grant.initial := by
    rw [grant_finish]
    exact (ite_eq_left_iff.mpr fun _ => bare.grant f)
  obtain ⟨G, ended⟩ := finish_shape v
  rw [ended] at grant ⊢
  exact ⟨by rw [v_eq], axis, port, grant, bare.uncut, rfl, alarm, rfl⟩

end Sys2Proof.Machine
end

section
/-! Items of an image taken one after another: what each leaves, and the log of those replaced (R195). -/

namespace Sys2Proof.Machine

variable {κ β γ : Type} {s t u : State} {bs : List Byte} {n : Nat}

/-! ## The entries of replaced items -/

/-- The entry of an item that start-up replaced, named by its offset. -/
def replacedEntry (n : Nat) : LogEntry :=
  { time := 0, code := .imageItemReplaced, cls := .note, flyer := none, axis := none, station := none, port := none,
    detail := .number n }

/-- The log after the items at some offsets were replaced. -/
def logItems (mode : LogMode) (log : List LogEntry) (offsets : List Nat) : List LogEntry :=
  (offsets.map replacedEntry).foldl (logAfter mode) log

theorem logItems_append (mode : LogMode) (log : List LogEntry) (m n : List Nat) :
    logItems mode log (m ++ n) = logItems mode (logItems mode log m) n := by
  rw [logItems, List.map_append, List.foldl_append]
  rfl

theorem replacedAt_eq (clock : s.clock = 0) (n : Nat) :
    replacedAt n s = { s with log := logItems s.logMode s.log [n] } := by
  unfold replacedAt logCause logEntry
  rw [clock]
  rfl

theorem takeItem_some (n : Nat) (x : β) (put : β → State → State) (s : State) :
    takeItem n (some x) put s = put x s := rfl

theorem takeItem_none (clock : s.clock = 0) (n : Nat) (put : β → State → State) :
    takeItem n none put s = { s with log := logItems s.logMode s.log [n] } := replacedAt_eq clock n

/-! ## A sequence of items -/

/-- A sequence whose every step, where it is taken, is that of another sequence, is that sequence. -/
theorem forEach_congr_prefix {op op' : κ → State → State} {l : List κ} {s : State}
    (same : ∀ pre k post, l = pre ++ k :: post → op k (forEach pre op s) = op' k (forEach pre op s)) :
    forEach l op s = forEach l op' s := by
  induction l generalizing s with
  | nil => rfl
  | cons k l ih =>
    have head : op k s = op' k s := same [] k l rfl
    rw [forEach_cons, forEach_cons, ← head]
    exact ih fun pre j post split => same (k :: pre) j post (by rw [split]; rfl)

/-- What the sequence leaves of a record that none of its items names. -/
theorem read_forEach_of_notMem {op : κ → State → State} {get : State → κ → γ}
    (other : ∀ j k u, j ≠ k → get (op k u) j = get u j) {l : List κ} {j : κ} (outside : j ∉ l) (s : State) :
    get (forEach l op s) j = get s j := by
  induction l generalizing s with
  | nil => rfl
  | cons k l ih =>
    obtain ⟨j_k, j_l⟩ := List.ne_and_not_mem_of_not_mem_cons outside
    rw [forEach_cons, ih j_l, other j k s j_k]

/-- Part of the way through, each record stands as the end leaves it, or as it stood. -/
theorem read_prefix {op : κ → State → State} {get : State → κ → γ}
    (other : ∀ j k u, j ≠ k → get (op k u) j = get u j) {l pre post : List κ} {k : κ} (nodup : l.Nodup)
    (split : l = pre ++ k :: post) (s : State) (j : κ) :
    (j ∈ pre → get (forEach pre op s) j = get (forEach l op s) j) ∧
      (j ∉ pre → get (forEach pre op s) j = get s j) := by
  refine ⟨fun early => ?_, fun late => read_forEach_of_notMem other late s⟩
  have whole : forEach l op s = forEach (k :: post) op (forEach pre op s) := by
    rw [split]
    exact List.foldl_append
  have rest : j ∉ k :: post := by
    rw [split] at nodup
    exact fun mem => List.disjoint_of_nodup_append nodup early mem
  rw [whole, read_forEach_of_notMem other rest]

/-- The numbers before one of them, in a list that is in order and holds every number. -/
theorem mem_prefix_iff {m : Nat} {l pre post : List (Fin m)} {k : Fin m} (order : l.Pairwise (· < ·))
    (all : ∀ j, j ∈ l) (split : l = pre ++ k :: post) (j : Fin m) : j ∈ pre ↔ j < k := by
  subst split
  obtain ⟨-, rest, before⟩ := List.pairwise_append.mp order
  obtain ⟨after, -⟩ := List.pairwise_cons.mp rest
  refine ⟨fun mem => before j mem k List.mem_cons_self, fun early => ?_⟩
  rcases List.mem_append.mp (all j) with mem | mem
  · exact mem
  · rcases List.mem_cons.mp mem with rfl | mem
    · exact absurd early (lt_irrefl j)
    · exact absurd (after j mem) early.asymm

/-- A change that logs nothing. -/
structure LogsNothing (put : κ → β → State → State) : Prop where
  log : ∀ k x u, (put k x u).log = u.log
  mode : ∀ k x u, (put k x u).logMode = u.logMode
  clock : ∀ k x u, (put k x u).clock = u.clock

/-- The log after a sequence of items that do not read the state. -/
theorem log_forEach_takeItem {put : κ → β → State → State} (quiet : LogsNothing put) (off : κ → Nat)
    (item : κ → Option β) (l : List κ) (s : State) (clock : s.clock = 0) :
    (forEach l (fun k => takeItem (off k) (item k) (put k)) s).log =
      logItems s.logMode s.log ((l.filter fun k => (item k).isNone).map off) := by
  induction l generalizing s with
  | nil => rfl
  | cons k l ih =>
    rw [forEach_cons]
    cases found : item k with
    | none =>
      rw [takeItem_none clock, ih { s with log := logItems s.logMode s.log [off k] } clock,
        List.filter_cons_of_pos (by simp [found]), List.map_cons]
      rfl
    | some x =>
      rw [takeItem_some, ih _ ((quiet.clock k x s).trans clock), quiet.log, quiet.mode,
        List.filter_cons_of_neg (by simp [found])]

/-- What a sequence of items that do not read the state makes of the records: each is put by its own item, and one
without an item keeps its default. -/
theorem read_forEach_takeItem {put : κ → β → State → State} {get : State → κ → γ} {val : β → γ} {default : γ}
    (other : ∀ j k x u, j ≠ k → get (put k x u) j = get u j)
    (own : ∀ k x u, get u k = default → get (put k x u) k = val x) (unread : ∀ j n u, get (replacedAt n u) j = get u j)
    (off : κ → Nat) (item : κ → Option β) {l : List κ} (nodup : l.Nodup) {k : κ} (mem : k ∈ l) (s : State)
    (start : get s k = default) :
    get (forEach l (fun k => takeItem (off k) (item k) (put k)) s) k = (item k).elim default val := by
  have apart (j k : κ) (u : State) (j_k : j ≠ k) : get (takeItem (off k) (item k) (put k) u) j = get u j := by
    cases item k with
    | none => exact unread j _ u
    | some x => exact other j k x u j_k
  induction l generalizing s with
  | nil => exact (List.not_mem_nil mem).elim
  | cons m l ih =>
    obtain ⟨once, nodup⟩ := List.nodup_cons.mp nodup
    rw [forEach_cons]
    rcases List.mem_cons.mp mem with rfl | late
    · rw [read_forEach_of_notMem (op := fun k => takeItem (off k) (item k) (put k)) apart once]
      cases item k with
      | none => exact (unread k _ s).trans start
      | some x => exact own k x s start
    · have ne : k ≠ m := fun same => once (same ▸ late)
      exact ih nodup late _ ((apart k m s ne).trans start)

/-! ## The settings (steps 1 to 4) -/

theorem takeMode_eq (clock : s.clock = 0) (m : Option LogMode) :
    takeItem 11 m (fun m t => { t with logMode := m }) s =
      { s with logMode := m.getD s.logMode, log := logItems (m.getD s.logMode) s.log (if m = none then [11] else []) } := by
  cases m with
  | none => exact takeItem_none clock 11 _
  | some m => rfl

theorem takePeriod_eq (clock : s.clock = 0) (n : Nat) :
    takeItem 8 (passing periodInRange n) (fun n t => { t with t := n, cfgT := n }) s =
      { s with
        t := if periodInRange n = true then n else s.t
        cfgT := if periodInRange n = true then n else s.cfgT
        log := logItems s.logMode s.log (if periodInRange n = false then [8] else []) } := by
  unfold passing
  cases periodInRange n with
  | false => exact takeItem_none clock 8 _
  | true => rfl

theorem takeCutoff_eq (clock : s.clock = 0) (n : Nat) :
    takeItem 9 (passing (fun n => cutoffInRange n) n) (fun n t => { t with cutoff := n }) s =
      { s with
        cutoff := if cutoffInRange n = true then n else s.cutoff
        log := logItems s.logMode s.log (if cutoffInRange n = false then [9] else []) } := by
  unfold passing
  by_cases range : cutoffInRange n = true
  · rw [if_pos range, if_pos range, if_neg (by rw [range]; decide)]
    rfl
  · rw [if_neg range, if_neg range, if_pos (Bool.eq_false_iff.mpr range)]
    exact takeItem_none clock 9 _

theorem takeSeparation_eq (clock : s.clock = 0) (n : Nat) :
    takeItem 12 (passing (fun n => separationInRange n) n) (fun n t => { t with dsep := n }) s =
      { s with
        dsep := if n ≤ 10000 then n else s.dsep
        log := logItems s.logMode s.log (if 10000 < n then [12] else []) } := by
  unfold passing
  by_cases range : n ≤ 10000
  · rw [if_pos (separationInRange_iff.mpr range), if_pos range, if_neg (not_lt.mpr range)]
    rfl
  · rw [if_neg (mt separationInRange_iff.mp range), if_neg range, if_pos (not_le.mp range)]
    exact takeItem_none clock 12 _

/-- The offsets of the settings that are replaced. -/
def replacedSettings (bs : List Byte) : List Nat :=
  (if logModeNamed (u8At bs 11) = none then [11] else []) ++ (if periodInRange (u8At bs 8) = false then [8] else []) ++
    (if cutoffInRange (u16At bs 9) = false then [9] else []) ++ (if 10000 < u16At bs 12 then [12] else [])

theorem loadSettings_eq (clock : s.clock = 0) (bs : List Byte) :
    loadSettings bs s =
      { s with
        logMode := (logModeNamed (u8At bs 11)).getD s.logMode
        t := if periodInRange (u8At bs 8) = true then u8At bs 8 else s.t
        cfgT := if periodInRange (u8At bs 8) = true then u8At bs 8 else s.cfgT
        cutoff := if cutoffInRange (u16At bs 9) = true then u16At bs 9 else s.cutoff
        dsep := if u16At bs 12 ≤ 10000 then u16At bs 12 else s.dsep
        log := logItems ((logModeNamed (u8At bs 11)).getD s.logMode) s.log (replacedSettings bs) } := by
  unfold loadSettings replacedSettings
  dsimp only
  rw [takeMode_eq clock, takePeriod_eq (by exact clock), takeCutoff_eq (by exact clock), takeSeparation_eq (by exact clock)]
  simp only [logItems_append]
end Sys2Proof.Machine
end

section
/-! The items of a valid image, each as start-up takes it: axes, slot tables, flyers, formations and zones (R195). -/

namespace Sys2Proof.Machine

variable {κ β γ : Type} {s t u : State} {bs : List Byte} {n : Nat}

/-! ## The items -/

/-- The parameter set that an image holds for an axis. -/
def axisItem (bs : List Byte) (a : AxisId) : Option (Option AxisParams) :=
  entryAt bs (axisOffset a) (passing paramsInRange (paramsAt bs (axisOffset a + 1)))

/-- The slot table that an image holds for a port, where no table of an earlier port holds one of its axes. -/
def slotItem (bs : List Byte) (t : State) (p : PortId) : Option Slots :=
  (slotsOf (u8At bs (portOffset p)) (u8At bs (portOffset p + 1))).filter fun x =>
    decide (∀ g, g < p → ∀ a, x.has a = true → (t.port g).active.has a = false)

/-- The definition that an image holds for a flyer, where its members have parameter sets and stand in no earlier
flyer, and its anchors meet their condition. -/
def flyerItem (bs : List Byte) (t : State) (f : FlyerId) : Option (Option FlyerDef) :=
  entryAt bs (flyerOffset f)
    ((flyerDefOf (flyerFieldsAt bs (flyerOffset f + 1))).filter fun d =>
      decide (∀ a ∈ d.members, (t.axis a).params ≠ none ∧ ∀ g, g < f → a ∉ membersOf t g) &&
        anchorsUsable (paramsOf t) d)

/-- The record that an image holds for a formation, where its flyers are SPATIAL and stand in no earlier record. -/
def formationItem (bs : List Byte) (t : State) (n : FormationId) : Option (Option Formation) :=
  entryAt bs (formationOffset n)
    ((formationOf (formationFieldsAt bs (formationOffset n + 1))).filter fun m => m.flyers.all fun e =>
      isSpatial t e.1 && decide (∀ k, k < n → ∀ x ∈ t.formation k, x.names e.1 = false))

/-- The record that an image holds for a zone. -/
def zoneItem (bs : List Byte) (z : ZoneId) : Option Zone := zoneOf (zoneFieldsAt bs (zoneOffset z))

theorem isSpatial_congr {f : FlyerId} (same : (u.flyer f).defn = (t.flyer f).defn) : isSpatial u f = isSpatial t f := by
  rw [isSpatial, isSpatial, kindOf, kindOf, same]

theorem slotItem_congr (active : ∀ p, (u.port p).active = (t.port p).active) (bs : List Byte) (p : PortId) :
    slotItem bs u p = slotItem bs t p := by
  simp only [slotItem, active]

theorem flyerItem_congr (params : ∀ a, (u.axis a).params = (t.axis a).params)
    (defn : ∀ f, (u.flyer f).defn = (t.flyer f).defn) (bs : List Byte) (f : FlyerId) :
    flyerItem bs u f = flyerItem bs t f := by
  have same : paramsOf u = paramsOf t := funext params
  have members (g : FlyerId) : membersOf u g = membersOf t g := by
    rw [membersOf_eq, membersOf_eq, Flyer.members, Flyer.members, defn]
  simp only [flyerItem, params, members, same]

theorem formationItem_congr (defn : ∀ f, (u.flyer f).defn = (t.flyer f).defn)
    (formation : ∀ n, u.formation n = t.formation n) (bs : List Byte) (n : FormationId) :
    formationItem bs u n = formationItem bs t n := by
  simp only [formationItem, formation, isSpatial_congr (defn _)]

/-! ## What an item changes -/

theorem read_takeItem {get : State → γ} {put : β → State → State} {item : Option β}
    (unread : get (replacedAt n s) = get s) (stands : ∀ x, get (put x s) = get s) :
    get (takeItem n item put s) = get s := by
  cases item with
  | none => exact unread
  | some x => exact stands x

theorem bind_passing_eq_filter (item : Option β) (test : β → Bool) : item.bind (passing test) = item.filter test := by
  cases item with
  | none => rfl
  | some x => cases held : test x <;> simp [passing, Option.filter, held]

/-- An axis takes a parameter set, or none. -/
def putParams (a : AxisId) (p : Option AxisParams) : State → State := modAxis a fun x => { x with params := p }

/-- A port takes an active table. -/
def putSlots (p : PortId) (x : Slots) : State → State := modPort p fun y => { y with active := x }

/-- A flyer takes a definition, or none. -/
def putFlyer (f : FlyerId) (d : Option FlyerDef) (s : State) : State :=
  match d with
  | some x => putDefinition f x s
  | none => s

theorem logsNothing_putParams : LogsNothing putParams := ⟨fun _ _ _ => rfl, fun _ _ _ => rfl, fun _ _ _ => rfl⟩

theorem logsNothing_putSlots : LogsNothing putSlots := ⟨fun _ _ _ => rfl, fun _ _ _ => rfl, fun _ _ _ => rfl⟩

theorem logsNothing_putFlyer : LogsNothing putFlyer :=
  ⟨fun _ d _ => by cases d <;> rfl, fun _ d _ => by cases d <;> rfl, fun _ d _ => by cases d <;> rfl⟩

theorem logsNothing_setFormation : LogsNothing fun n m s => State.setFormation s n m :=
  ⟨fun _ _ _ => rfl, fun _ _ _ => rfl, fun _ _ _ => rfl⟩

theorem logsNothing_setZone : LogsNothing fun z x s => State.setZone s z x :=
  ⟨fun _ _ _ => rfl, fun _ _ _ => rfl, fun _ _ _ => rfl⟩

/-! ## The axes (step 5) -/

theorem loadAxis_eq (bs : List Byte) (a : AxisId) : loadAxis bs a = takeItem (axisOffset a) (axisItem bs a) (putParams a) :=
  rfl

theorem params_putParams_other {j a : AxisId} (ne : j ≠ a) (p : Option AxisParams) (s : State) :
    ((putParams a p s).axis j).params = (s.axis j).params := by
  rw [putParams, axis_modAxis, if_neg ne.symm]

theorem params_putParams_same (a : AxisId) (p : Option AxisParams) (s : State) :
    ((putParams a p s).axis a).params = p := by
  rw [putParams, axis_modAxis, if_pos rfl]

theorem loadAxes_frame (bs : List Byte) (clock : s.clock = 0) :
    ∃ A, forEach allAxes (loadAxis bs) s =
      { s with
        axes := A
        log := logItems s.logMode s.log ((allAxes.filter fun a => (axisItem bs a).isNone).map axisOffset) } := by
  have frame : ∃ A L, forEach allAxes (loadAxis bs) s = { s with axes := A, log := L } := by
    refine forEach_rel (fun s t => ∃ A L, t = { s with axes := A, log := L }) (fun s => ⟨s.axes, s.log, rfl⟩) ?_ _ _
      (fun a _ s => ?_) s
    · rintro _ _ _ ⟨_, _, rfl⟩ ⟨A, L, rfl⟩
      exact ⟨A, L, rfl⟩
    · rw [loadAxis_eq]
      cases axisItem bs a with
      | none => exact ⟨s.axes, _, rfl⟩
      | some p => exact ⟨_, s.log, rfl⟩
  obtain ⟨A, L, whole⟩ := frame
  have log := log_forEach_takeItem logsNothing_putParams axisOffset (axisItem bs) allAxes s clock
  simp only [← loadAxis_eq] at log
  rw [whole] at log ⊢
  exact ⟨A, by rw [← log]⟩

theorem params_loadAxes (bs : List Byte) (empty : ∀ a, (s.axis a).params = none) (a : AxisId) :
    ((forEach allAxes (loadAxis bs) s).axis a).params = (axisItem bs a).getD none := by
  have taken := read_forEach_takeItem (put := putParams) (get := fun s a => (s.axis a).params) (val := id) (default := none)
    (fun _ _ x u ne => params_putParams_other ne x u) (fun k x u _ => params_putParams_same k x u) (fun _ _ _ => rfl)
    axisOffset (axisItem bs) (by decide : allAxes.Nodup) (mem_allAxes a) s (empty a)
  refine taken.trans ?_
  cases axisItem bs a <;> rfl

/-! ## The slot tables (step 6) -/

theorem active_loadSlots_other {j p : PortId} (ne : j ≠ p) (s : State) :
    ((loadSlots bs p s).port j).active = (s.port j).active :=
  read_takeItem (get := fun s => (s.port j).active) rfl fun _ => by rw [port_modPort, if_neg ne.symm]

/-- An item is weighed against the earlier ports alone, while the later tables are empty. -/
theorem slotsAt_eq_slotItem {p : PortId} (before : ∀ g, g < p → (u.port g).active = (t.port g).active)
    (after : ∀ g, p < g → (u.port g).active = Slots.initial) : slotsAt bs p u = slotItem bs t p := by
  unfold slotsAt slotItem
  cases slotsOf (u8At bs (portOffset p)) (u8At bs (portOffset p + 1)) with
  | none => rfl
  | some x =>
    have free : (stagedElsewhere u p x).isSome = true ↔
        ¬∀ g, g < p → ∀ a, x.has a = true → (t.port g).active.has a = false := by
      rw [← Option.ne_none_iff_isSome, Ne, not_iff_not, stagedElsewhere_eq_none_iff]
      constructor
      · intro all g early a held
        rw [← before g early]
        exact all a held g early.ne
      · intro all a held g other
        rcases lt_or_gt_of_ne other with early | late
        · rw [before g early]
          exact all g early a held
        · rw [after g late]
          rfl
    simp only [free, Option.filter]
    split <;> simp_all

theorem loadSlots_eq_items (bs : List Byte) (empty : ∀ p, (s.port p).active = Slots.initial) :
    forEach allPorts (loadSlots bs) s =
      forEach allPorts
        (fun p => takeItem (portOffset p) (slotItem bs (forEach allPorts (loadSlots bs) s) p) (putSlots p)) s := by
  refine forEach_congr_prefix fun pre p post split => ?_
  have reads := read_prefix (op := loadSlots bs) (get := fun s p => (s.port p).active) (fun j k u ne => active_loadSlots_other ne u)
    (by decide : allPorts.Nodup) split s
  have early := mem_prefix_iff (by decide : allPorts.Pairwise (· < ·)) mem_allPorts split
  rw [← slotsAt_eq_slotItem (fun g earlier => (reads g).1 ((early g).mpr earlier))
    fun g later => ((reads g).2 fun mem => later.asymm ((early g).mp mem)).trans (empty g)]
  rfl

theorem loadSlots_frame (bs : List Byte) (clock : s.clock = 0) (empty : ∀ p, (s.port p).active = Slots.initial) :
    ∃ P, forEach allPorts (loadSlots bs) s =
      { s with
        ports := P
        log := logItems s.logMode s.log
          ((allPorts.filter fun p => (slotItem bs (forEach allPorts (loadSlots bs) s) p).isNone).map portOffset) } := by
  have frame : ∃ P L, forEach allPorts (loadSlots bs) s = { s with ports := P, log := L } := by
    refine forEach_rel (fun s t => ∃ P L, t = { s with ports := P, log := L }) (fun s => ⟨s.ports, s.log, rfl⟩) ?_ _ _
      (fun p _ s => ?_) s
    · rintro _ _ _ ⟨_, _, rfl⟩ ⟨P, L, rfl⟩
      exact ⟨P, L, rfl⟩
    · unfold loadSlots
      cases slotsAt bs p s with
      | none => exact ⟨s.ports, _, rfl⟩
      | some x => exact ⟨_, s.log, rfl⟩
  obtain ⟨P, L, whole⟩ := frame
  have log := log_forEach_takeItem logsNothing_putSlots portOffset (slotItem bs (forEach allPorts (loadSlots bs) s))
    allPorts s clock
  rw [← loadSlots_eq_items bs empty] at log
  refine ⟨P, ?_⟩
  rw [← log, whole]

theorem active_loadSlots (bs : List Byte) (empty : ∀ p, (s.port p).active = Slots.initial) (p : PortId) :
    ((forEach allPorts (loadSlots bs) s).port p).active =
      (slotItem bs (forEach allPorts (loadSlots bs) s) p).getD Slots.initial := by
  have taken := read_forEach_takeItem (put := putSlots) (get := fun s p => (s.port p).active) (val := id)
    (default := Slots.initial) (fun _ _ x u ne => by rw [putSlots, port_modPort, if_neg ne.symm])
    (fun k x u _ => by rw [putSlots, port_modPort, if_pos rfl]; rfl) (fun _ _ _ => rfl)
    portOffset (slotItem bs (forEach allPorts (loadSlots bs) s)) (by decide : allPorts.Nodup) (mem_allPorts p) s (empty p)
  rw [← loadSlots_eq_items bs empty] at taken
  refine taken.trans ?_
  cases slotItem bs (forEach allPorts (loadSlots bs) s) p <;> rfl
end Sys2Proof.Machine
end

section
/-! The flyers, formations and zones of a valid image (R195, steps 7 to 9). -/

namespace Sys2Proof.Machine

variable {s t u : State} {bs : List Byte}

/-! ## The flyers (step 7) -/

theorem loadFlyer_eq (bs : List Byte) (f : FlyerId) (s : State) :
    loadFlyer bs f s =
      takeItem (flyerOffset f)
        (entryAt bs (flyerOffset f) ((flyerDefOf (flyerFieldsAt bs (flyerOffset f + 1))).bind (passing (definitionUsable s f))))
        (putFlyer f) s := rfl

theorem flyer_putFlyer_other {j f : FlyerId} (ne : j ≠ f) (d : Option FlyerDef) (s : State) :
    (putFlyer f d s).flyer j = s.flyer j := by
  cases d with
  | none => rfl
  | some d => exact State.flyer_setFlyer_ne s f j _ ne.symm

theorem defn_putFlyer_same (f : FlyerId) (d : Option FlyerDef) (s : State) (fresh : (s.flyer f).defn = none) :
    ((putFlyer f d s).flyer f).defn = d := by
  cases d with
  | none => exact fresh
  | some d => exact congrArg Flyer.defn (State.flyer_setFlyer_self s f _)

theorem defn_loadFlyer_other {j f : FlyerId} (ne : j ≠ f) (s : State) :
    ((loadFlyer bs f s).flyer j).defn = (s.flyer j).defn :=
  read_takeItem (get := fun s => (s.flyer j).defn) rfl fun d => congrArg Flyer.defn (flyer_putFlyer_other ne d s)

/-- A definition is weighed against the earlier flyers alone, while no later one is defined and no formation stands. -/
theorem definitionUsable_eq {f : FlyerId} {d : FlyerDef} (params : ∀ a, (u.axis a).params = (t.axis a).params)
    (before : ∀ g, g < f → (u.flyer g).defn = (t.flyer g).defn) (after : ∀ g, f < g → (u.flyer g).defn = none)
    (apart : ∀ n, u.formation n = none) :
    definitionUsable u f d =
      (decide (∀ a ∈ d.members, (t.axis a).params ≠ none ∧ ∀ g, g < f → a ∉ membersOf t g) &&
        anchorsUsable (paramsOf t) d) := by
  have alone : formationNaming u f = none := formationNaming_eq_none_iff.mpr fun n m stands => by
    rw [apart n] at stands
    cases stands
  have members (g : FlyerId) (a : AxisId) : g = f ∨ a ∉ membersOf u g ↔ (g < f → a ∉ membersOf t g) := by
    rcases lt_trichotomy g f with early | same | late
    · simp [early, early.ne, membersOf_eq, Flyer.members, before g early]
    · simp [same]
    · simp [late.asymm, membersOf_eq, Flyer.members, after g late]
  have same : paramsOf u = paramsOf t := funext params
  rw [definitionUsable, same, alone, Option.isSome_none, Bool.false_and, Bool.not_false, Bool.and_true]
  congr 1
  rw [Bool.eq_iff_iff]
  simp only [Bool.and_eq_true, List.all_eq_true, decide_eq_true_iff, Bool.or_eq_true, Bool.not_eq_true', mem_allFlyers, true_imp_iff, forall_and, paramsOf, ← Option.ne_none_iff_isSome]
  refine and_congr_right fun _ => forall₂_congr fun a _ => forall_congr' fun g => ?_
  rw [← members]
  simp

theorem flyerItem_eq {f : FlyerId} (params : ∀ a, (u.axis a).params = (t.axis a).params)
    (before : ∀ g, g < f → (u.flyer g).defn = (t.flyer g).defn) (after : ∀ g, f < g → (u.flyer g).defn = none)
    (apart : ∀ n, u.formation n = none) :
    entryAt bs (flyerOffset f)
        ((flyerDefOf (flyerFieldsAt bs (flyerOffset f + 1))).bind (passing (definitionUsable u f))) =
      flyerItem bs t f := by
  rw [bind_passing_eq_filter, flyerItem]
  congr 2
  funext d
  exact definitionUsable_eq params before after apart

theorem forEach_loadFlyer_only (bs : List Byte) (l : List FlyerId) (s : State) :
    ∃ F L, forEach l (loadFlyer bs) s = { s with flyers := F, log := L } := by
  refine forEach_rel (fun s t => ∃ F L, t = { s with flyers := F, log := L }) (fun s => ⟨s.flyers, s.log, rfl⟩) ?_ _ _
    (fun f _ s => ?_) s
  · rintro _ _ _ ⟨_, _, rfl⟩ ⟨F, L, rfl⟩
    exact ⟨F, L, rfl⟩
  · rw [loadFlyer_eq]
    cases entryAt bs (flyerOffset f)
      ((flyerDefOf (flyerFieldsAt bs (flyerOffset f + 1))).bind (passing (definitionUsable s f))) with
    | none => exact ⟨s.flyers, _, rfl⟩
    | some d =>
      cases d with
      | none => exact ⟨s.flyers, s.log, rfl⟩
      | some d => exact ⟨_, s.log, rfl⟩

/-- No flyer is defined and no formation stands. -/
structure NoFlyers (s : State) : Prop where
  defn : ∀ f, (s.flyer f).defn = none
  formation : ∀ n, s.formation n = none

theorem loadFlyers_eq_items (bs : List Byte) (empty : NoFlyers s) :
    forEach allFlyers (loadFlyer bs) s =
      forEach allFlyers
        (fun f => takeItem (flyerOffset f) (flyerItem bs (forEach allFlyers (loadFlyer bs) s) f) (putFlyer f)) s := by
  refine forEach_congr_prefix fun pre f post split => ?_
  have reads := read_prefix (op := loadFlyer bs) (get := fun s f => (s.flyer f).defn)
    (fun j k u ne => defn_loadFlyer_other ne u) (by decide : allFlyers.Nodup) split s
  have early := mem_prefix_iff (by decide : allFlyers.Pairwise (· < ·)) mem_allFlyers split
  obtain ⟨_, _, part⟩ := forEach_loadFlyer_only bs pre s
  obtain ⟨_, _, whole⟩ := forEach_loadFlyer_only bs allFlyers s
  rw [loadFlyer_eq, flyerItem_eq (t := forEach allFlyers (loadFlyer bs) s) (fun a => by rw [part, whole]; rfl)
    (fun g earlier => (reads g).1 ((early g).mpr earlier))
    (fun g later => ((reads g).2 fun mem => later.asymm ((early g).mp mem)).trans (empty.defn g))
    (fun n => by rw [part]; exact empty.formation n)]

theorem loadFlyers_frame (bs : List Byte) (clock : s.clock = 0) (empty : NoFlyers s) :
    ∃ F, forEach allFlyers (loadFlyer bs) s =
      { s with
        flyers := F
        log := logItems s.logMode s.log
          ((allFlyers.filter fun f => (flyerItem bs (forEach allFlyers (loadFlyer bs) s) f).isNone).map flyerOffset) } := by
  obtain ⟨F, L, whole⟩ := forEach_loadFlyer_only bs allFlyers s
  have log := log_forEach_takeItem logsNothing_putFlyer flyerOffset (flyerItem bs (forEach allFlyers (loadFlyer bs) s))
    allFlyers s clock
  rw [← loadFlyers_eq_items bs empty] at log
  refine ⟨F, ?_⟩
  rw [← log, whole]

theorem defn_loadFlyers (bs : List Byte) (empty : NoFlyers s) (f : FlyerId) :
    ((forEach allFlyers (loadFlyer bs) s).flyer f).defn =
      (flyerItem bs (forEach allFlyers (loadFlyer bs) s) f).getD none := by
  have taken := read_forEach_takeItem (put := putFlyer) (get := fun s f => (s.flyer f).defn) (val := id) (default := none)
    (fun _ _ d u ne => congrArg Flyer.defn (flyer_putFlyer_other ne d u)) defn_putFlyer_same (fun _ _ _ => rfl)
    flyerOffset (flyerItem bs (forEach allFlyers (loadFlyer bs) s)) (by decide : allFlyers.Nodup) (mem_allFlyers f) s
    (empty.defn f)
  rw [← loadFlyers_eq_items bs empty] at taken
  refine taken.trans ?_
  cases flyerItem bs (forEach allFlyers (loadFlyer bs) s) f <;> rfl

/-- Every flyer holds the rig constants of its definition (R11). -/
def RigsFormed (s : State) : Prop :=
  ∀ f, (s.flyer f).rig = (s.flyer f).defn.map fun d => rigConstsOf (anchorsUnder (paramsOf s) d) d.drop

theorem RigsFormed.loadFlyer (formed : RigsFormed s) (bs : List Byte) (f : FlyerId) : RigsFormed (loadFlyer bs f s) := by
  rw [loadFlyer_eq]
  cases entryAt bs (flyerOffset f)
    ((flyerDefOf (flyerFieldsAt bs (flyerOffset f + 1))).bind (passing (definitionUsable s f))) with
  | none => exact formed
  | some d =>
    cases d with
    | none => exact formed
    | some d =>
      intro g
      rw [takeItem_some, putFlyer, putDefinition, State.flyer_setFlyer]
      split
      · rfl
      · exact formed g

/-! ## The formations (step 8) -/

theorem loadFormation_eq (bs : List Byte) (n : FormationId) (s : State) :
    loadFormation bs n s =
      takeItem (formationOffset n)
        (entryAt bs (formationOffset n)
          ((formationOf (formationFieldsAt bs (formationOffset n + 1))).bind (passing (formationUsable s n))))
        (fun m s => s.setFormation n m) s := rfl

theorem formation_loadFormation_other {j n : FormationId} (ne : j ≠ n) (s : State) :
    (loadFormation bs n s).formation j = s.formation j :=
  read_takeItem (get := fun s => s.formation j) rfl fun m => State.formation_setFormation_ne s n j m ne.symm

/-- A record is weighed against the earlier records alone, while neither it nor a later one stands. -/
theorem formationUsable_eq {n : FormationId} {m : Formation} (defn : ∀ f, (u.flyer f).defn = (t.flyer f).defn)
    (before : ∀ k, k < n → u.formation k = t.formation k) (after : ∀ k, ¬k < n → u.formation k = none) :
    formationUsable u n m = m.flyers.all fun e =>
      isSpatial t e.1 && decide (∀ k, k < n → ∀ x ∈ t.formation k, x.names e.1 = false) := by
  have free (f : FlyerId) : (!inOtherFormation u n f) =
      decide (∀ k, k < n → ∀ x ∈ t.formation k, x.names f = false) := by
    have none_ : formationNaming u f = none ↔ ∀ k, k < n → ∀ x ∈ t.formation k, x.names f = false := by
      rw [formationNaming_eq_none_iff]
      refine forall_congr' fun k => ?_
      by_cases early : k < n
      · rw [before k early]
        exact ⟨fun all _ => all, fun all => all early⟩
      · rw [after k early]
        exact ⟨fun _ early_ => absurd early_ early, fun _ x stands => by cases stands⟩
    rw [Bool.eq_iff_iff, decide_eq_true_iff, ← none_]
    unfold inOtherFormation
    cases naming : formationNaming u f with
    | none => simp
    | some e =>
      have other : e.1 ≠ n := fun same => by
        have stands := formation_of_formationNaming naming
        rw [same, after n (lt_irrefl n)] at stands
        cases stands
      simp [other]
  unfold formationUsable
  congr 1
  funext e
  rw [free, isSpatial_congr (defn e.1)]

theorem formationItem_eq {n : FormationId} (defn : ∀ f, (u.flyer f).defn = (t.flyer f).defn)
    (before : ∀ k, k < n → u.formation k = t.formation k) (after : ∀ k, ¬k < n → u.formation k = none) :
    entryAt bs (formationOffset n)
        ((formationOf (formationFieldsAt bs (formationOffset n + 1))).bind (passing (formationUsable u n))) =
      formationItem bs t n := by
  rw [bind_passing_eq_filter, formationItem]
  congr 2
  funext m
  exact formationUsable_eq defn before after

theorem forEach_loadFormation_only (bs : List Byte) (l : List FormationId) (s : State) :
    ∃ F L, forEach l (loadFormation bs) s = { s with formations := F, log := L } := by
  refine forEach_rel (fun s t => ∃ F L, t = { s with formations := F, log := L }) (fun s => ⟨s.formations, s.log, rfl⟩) ?_
    _ _ (fun n _ s => ?_) s
  · rintro _ _ _ ⟨_, _, rfl⟩ ⟨F, L, rfl⟩
    exact ⟨F, L, rfl⟩
  · rw [loadFormation_eq]
    cases entryAt bs (formationOffset n)
      ((formationOf (formationFieldsAt bs (formationOffset n + 1))).bind (passing (formationUsable s n))) with
    | none => exact ⟨s.formations, _, rfl⟩
    | some m => exact ⟨_, s.log, rfl⟩

theorem loadFormations_eq_items (bs : List Byte) (empty : ∀ n, s.formation n = none) :
    forEach allFormations (loadFormation bs) s =
      forEach allFormations
        (fun n => takeItem (formationOffset n) (formationItem bs (forEach allFormations (loadFormation bs) s) n)
          fun m s => s.setFormation n m) s := by
  refine forEach_congr_prefix fun pre n post split => ?_
  have reads := read_prefix (op := loadFormation bs) (get := State.formation)
    (fun j k u ne => formation_loadFormation_other ne u) (by decide : allFormations.Nodup) split s
  have early := mem_prefix_iff (by decide : allFormations.Pairwise (· < ·)) mem_allFormations split
  obtain ⟨_, _, part⟩ := forEach_loadFormation_only bs pre s
  obtain ⟨_, _, whole⟩ := forEach_loadFormation_only bs allFormations s
  rw [loadFormation_eq, formationItem_eq (t := forEach allFormations (loadFormation bs) s)
    (fun f => by rw [part, whole]; rfl) (fun k earlier => (reads k).1 ((early k).mpr earlier))
    (fun k later => ((reads k).2 fun mem => later ((early k).mp mem)).trans (empty k))]

theorem loadFormations_frame (bs : List Byte) (clock : s.clock = 0) (empty : ∀ n, s.formation n = none) :
    ∃ F, forEach allFormations (loadFormation bs) s =
      { s with
        formations := F
        log := logItems s.logMode s.log
          ((allFormations.filter fun n =>
            (formationItem bs (forEach allFormations (loadFormation bs) s) n).isNone).map formationOffset) } := by
  obtain ⟨F, L, whole⟩ := forEach_loadFormation_only bs allFormations s
  have log := log_forEach_takeItem logsNothing_setFormation formationOffset
    (formationItem bs (forEach allFormations (loadFormation bs) s)) allFormations s clock
  rw [← loadFormations_eq_items bs empty] at log
  refine ⟨F, ?_⟩
  rw [← log, whole]

theorem formation_loadFormations (bs : List Byte) (empty : ∀ n, s.formation n = none) (n : FormationId) :
    (forEach allFormations (loadFormation bs) s).formation n =
      (formationItem bs (forEach allFormations (loadFormation bs) s) n).getD none := by
  have taken := read_forEach_takeItem (put := fun n m s => State.setFormation s n m) (get := State.formation) (val := id)
    (default := none) (fun _ k m u ne => State.formation_setFormation_ne u k _ m ne.symm)
    (fun k m u _ => State.formation_setFormation_self u k m) (fun _ _ _ => rfl) formationOffset
    (formationItem bs (forEach allFormations (loadFormation bs) s)) (by decide : allFormations.Nodup)
    (mem_allFormations n) s (empty n)
  rw [← loadFormations_eq_items bs empty] at taken
  refine taken.trans ?_
  cases formationItem bs (forEach allFormations (loadFormation bs) s) n <;> rfl

/-! ## The zones (step 9) -/

theorem loadZone_eq (bs : List Byte) (z : ZoneId) :
    loadZone bs z = takeItem (zoneOffset z) (zoneItem bs z) fun x s => s.setZone z x := rfl

theorem loadZones_frame (bs : List Byte) (clock : s.clock = 0) :
    ∃ Z, forEach allZones (loadZone bs) s =
      { s with
        zones := Z
        log := logItems s.logMode s.log ((allZones.filter fun z => (zoneItem bs z).isNone).map zoneOffset) } := by
  have frame : ∃ Z L, forEach allZones (loadZone bs) s = { s with zones := Z, log := L } := by
    refine forEach_rel (fun s t => ∃ Z L, t = { s with zones := Z, log := L }) (fun s => ⟨s.zones, s.log, rfl⟩) ?_ _ _
      (fun z _ s => ?_) s
    · rintro _ _ _ ⟨_, _, rfl⟩ ⟨Z, L, rfl⟩
      exact ⟨Z, L, rfl⟩
    · rw [loadZone_eq]
      cases zoneItem bs z with
      | none => exact ⟨s.zones, _, rfl⟩
      | some x => exact ⟨_, s.log, rfl⟩
  obtain ⟨Z, L, whole⟩ := frame
  have log := log_forEach_takeItem logsNothing_setZone zoneOffset (zoneItem bs) allZones s clock
  simp only [← loadZone_eq] at log
  rw [whole] at log ⊢
  exact ⟨Z, by rw [← log]⟩

theorem zone_loadZones (bs : List Byte) (empty : ∀ z, s.zone z = Zone.initial) (z : ZoneId) :
    (forEach allZones (loadZone bs) s).zone z = (zoneItem bs z).getD Zone.initial := by
  have taken := read_forEach_takeItem (put := fun z x s => State.setZone s z x) (get := State.zone) (val := id)
    (default := Zone.initial) (fun _ k x u ne => State.zone_setZone_ne u k _ x ne.symm)
    (fun k x u _ => State.zone_setZone_self u k x) (fun _ _ _ => rfl) zoneOffset (zoneItem bs)
    (by decide : allZones.Nodup) (mem_allZones z) s (empty z)
  refine taken.trans ?_
  cases zoneItem bs z <;> rfl

end Sys2Proof.Machine
end

section
/-! The end of start-up: the load of a whole image, and the state after either reset (R192 to R195). -/

namespace Sys2Proof.Machine

variable {o s t u : State} {bs : List Byte}

/-! ## Loading touches nothing but the configuration -/

theorem Bare.replacedAt (bare : Bare o s) (n : Nat) : Bare o (replacedAt n s) := { bare with }

theorem Bare.takeItem {β : Type} (bare : Bare o s) (n : Nat) (item : Option β) {put : β → State → State}
    (taken : ∀ x, Bare o (put x s)) : Bare o (takeItem n item put s) := by
  cases item with
  | none => exact bare.replacedAt n
  | some x => exact taken x

theorem Bare.forEach {κ : Type} {op : κ → State → State} (bare : Bare o s) (each : ∀ k u, Bare o u → Bare o (op k u))
    (l : List κ) : Bare o (forEach l op s) :=
  forEach_rel (fun s t => Bare o s → Bare o t) (fun _ => id) (fun _ _ _ first next => next ∘ first) op l
    (fun k _ => each k) s bare

theorem Bare.loadSettings (bare : Bare o s) (bs : List Byte) : Bare o (loadSettings bs s) := by
  rw [loadSettings_eq bare.clock]
  exact { bare with }

theorem Bare.putParams (bare : Bare o s) (a : AxisId) (p : Option AxisParams) : Bare o (putParams a p s) := by
  refine { bare with axis := fun b => ?_ }
  rw [Machine.putParams, axis_modAxis]
  split
  · rw [bare.axis b]
  · exact bare.axis b

theorem Bare.putSlots (bare : Bare o s) (p : PortId) (x : Slots) : Bare o (putSlots p x s) := by
  refine { bare with port := fun q => ?_ }
  rw [Machine.putSlots, port_modPort]
  split
  · rw [bare.port q]
  · exact bare.port q

theorem Bare.putFlyer (bare : Bare o s) (f : FlyerId) (d : Option FlyerDef) : Bare o (putFlyer f d s) := by
  cases d with
  | none => exact bare
  | some d =>
    refine { bare with flyer := fun g => ?_ }
    rw [Machine.putFlyer, putDefinition, State.flyer_setFlyer]
    split
    · rfl
    · exact bare.flyer g

theorem Bare.setFormation (bare : Bare o s) (n : FormationId) (m : Option Formation) : Bare o (s.setFormation n m) :=
  { bare with }

theorem Bare.setZone (bare : Bare o s) (z : ZoneId) (x : Zone) : Bare o (s.setZone z x) := { bare with }

theorem Bare.loadItems (bare : Bare o s) (bs : List Byte) : Bare o (loadItems bs s) :=
  have settings := bare.loadSettings bs
  have axes := settings.forEach (op := loadAxis bs) (fun a _ b => b.takeItem _ _ fun x => b.putParams a x) allAxes
  have ports := axes.forEach (op := loadSlots bs) (fun p _ b => b.takeItem _ _ fun x => b.putSlots p x) allPorts
  have flyers := ports.forEach (op := loadFlyer bs) (fun f _ b => b.takeItem _ _ fun x => b.putFlyer f x) allFlyers
  have formations := flyers.forEach (op := loadFormation bs)
    (fun n _ b => b.takeItem (put := fun m s => s.setFormation n m) _ _ fun x => b.setFormation n x) allFormations
  formations.forEach (op := loadZone bs)
    (fun z _ b => b.takeItem (put := fun x s => s.setZone z x) _ _ fun x => b.setZone z x) allZones

theorem Bare.loadImage (bare : Bare o s) (answers : Bool) : Bare o (loadImage answers s) := by
  unfold Machine.loadImage
  cases readImage answers s with
  | none => exact { bare with }
  | some bs => exact bare.loadItems bs

/-! ## The whole image (R195) -/

/-- The offsets of the items of an image that are replaced, in the order of R195. -/
def replacedItems (bs : List Byte) (t : State) : List Nat :=
  replacedSettings bs ++ (allAxes.filter fun a => (axisItem bs a).isNone).map axisOffset ++
    (allPorts.filter fun p => (slotItem bs t p).isNone).map portOffset ++
    (allFlyers.filter fun f => (flyerItem bs t f).isNone).map flyerOffset ++
    (allFormations.filter fun n => (formationItem bs t n).isNone).map formationOffset ++
    (allZones.filter fun z => (zoneItem bs z).isNone).map zoneOffset

/-- The configuration that an image leaves, each item taken or at its default. -/
structure HoldsImage (bs : List Byte) (t : State) : Prop where
  mode : t.logMode = (logModeNamed (u8At bs 11)).getD .newest
  period : t.t = if periodInRange (u8At bs 8) = true then u8At bs 8 else 4
  next_period : t.cfgT = t.t
  cutoff : t.cutoff = if cutoffInRange (u16At bs 9) = true then u16At bs 9 else 1500
  dsep : t.dsep = if u16At bs 12 ≤ 10000 then u16At bs 12 else 0
  params : ∀ a, (t.axis a).params = (axisItem bs a).getD none
  active : ∀ p, (t.port p).active = (slotItem bs t p).getD Slots.initial
  defn : ∀ f, (t.flyer f).defn = (flyerItem bs t f).getD none
  rigs : RigsFormed t
  formation : ∀ n, t.formation n = (formationItem bs t n).getD none
  zone : ∀ z, t.zone z = (zoneItem bs z).getD Zone.initial
  dir : t.dir = []
  log : t.log = logItems t.logMode [] (replacedItems bs t)

/-- The settings, the axes and the slot tables of an image, the rest at its default. -/
structure HoldsTables (bs : List Byte) (t : State) : Prop where
  mode : t.logMode = (logModeNamed (u8At bs 11)).getD .newest
  period : t.t = if periodInRange (u8At bs 8) = true then u8At bs 8 else 4
  next_period : t.cfgT = t.t
  cutoff : t.cutoff = if cutoffInRange (u16At bs 9) = true then u16At bs 9 else 1500
  dsep : t.dsep = if u16At bs 12 ≤ 10000 then u16At bs 12 else 0
  params : ∀ a, (t.axis a).params = (axisItem bs a).getD none
  active : ∀ p, (t.port p).active = (slotItem bs t p).getD Slots.initial
  empty : NoFlyers t
  rig : ∀ f, (t.flyer f).rig = none
  zone : ∀ z, t.zone z = Zone.initial
  dir : t.dir = []
  clock : t.clock = 0
  log : t.log = logItems t.logMode []
    (replacedSettings bs ++ (allAxes.filter fun a => (axisItem bs a).isNone).map axisOffset ++
      (allPorts.filter fun p => (slotItem bs t p).isNone).map portOffset)

theorem holdsTables_load (bs : List Byte) (s : State) :
    HoldsTables bs (forEach allPorts (loadSlots bs) (forEach allAxes (loadAxis bs) (loadSettings bs (poweredOn s)))) := by
  have h1 := loadSettings_eq (s := poweredOn s) rfl bs
  generalize loadSettings bs (poweredOn s) = s1 at h1 ⊢
  have clock1 : s1.clock = 0 := by rw [h1]; rfl
  have mode1 : s1.logMode = (logModeNamed (u8At bs 11)).getD .newest := by rw [h1]; rfl
  have log1 : s1.log = logItems s1.logMode [] (replacedSettings bs) := by rw [h1]; rfl
  have period1 : s1.cfgT = s1.t := by rw [h1]; rfl
  obtain ⟨A, h2⟩ := loadAxes_frame bs clock1
  have params := params_loadAxes (s := s1) bs fun a => by
    rw [h1]
    exact congrArg Axis.params (Vector.getElem_replicate a.isLt)
  generalize forEach allAxes (loadAxis bs) s1 = s2 at h2 params ⊢
  have clock2 : s2.clock = 0 := by rw [h2]; exact clock1
  have empty2 (p : PortId) : (s2.port p).active = Slots.initial := by
    rw [h2, h1]
    exact congrArg Port.active (Vector.getElem_replicate p.isLt)
  obtain ⟨P, h3⟩ := loadSlots_frame bs clock2 empty2
  have active := active_loadSlots (s := s2) bs empty2
  generalize forEach allPorts (loadSlots bs) s2 = t at h3 active ⊢
  have initial (f : FlyerId) : t.flyer f = Flyer.initial := by
    rw [h3, h2, h1]
    exact Vector.getElem_replicate f.isLt
  have log : t.log = logItems t.logMode s2.log ((allPorts.filter fun p => (slotItem bs t p).isNone).map portOffset) := by
    have mode : t.logMode = s2.logMode := by rw [h3]
    rw [mode]
    exact congrArg State.log h3
  exact {
    mode := by rw [h3, h2]; exact mode1
    period := by rw [h3, h2, h1]; rfl
    next_period := by rw [h3, h2]; exact period1
    cutoff := by rw [h3, h2, h1]; rfl
    dsep := by rw [h3, h2, h1]; rfl
    params := fun a => by rw [h3]; exact params a
    active := active
    empty := ⟨fun f => by rw [initial f]; rfl, fun n => by rw [h3, h2, h1]; exact Vector.getElem_replicate n.isLt⟩
    rig := fun f => by rw [initial f]; rfl
    zone := fun z => by rw [h3, h2, h1]; exact Vector.getElem_replicate z.isLt
    dir := by rw [h3, h2, h1]; rfl
    clock := by rw [h3]; exact clock2
    log := by
      have mode : t.logMode = s1.logMode := by rw [h3, h2]
      rw [log, mode, logItems_append, logItems_append, ← log1]
      exact congrArg (logItems s1.logMode · _) (congrArg State.log h2) }

/-- The flyers, the formations and the zones of an image on a state that holds its tables. -/
theorem holdsImage_of_tables (held : HoldsTables bs s) :
    HoldsImage bs (forEach allZones (loadZone bs) (forEach allFormations (loadFormation bs)
      (forEach allFlyers (loadFlyer bs) s))) := by
  obtain ⟨F, h4⟩ := loadFlyers_frame bs held.clock held.empty
  have defn := defn_loadFlyers bs held.empty
  have rigs : RigsFormed (forEach allFlyers (loadFlyer bs) s) := by
    refine forEach_rel (fun s t => RigsFormed s → RigsFormed t) (fun _ => id) (fun _ _ _ first next => next ∘ first)
      (loadFlyer bs) allFlyers (fun f _ _ formed => formed.loadFlyer bs f) s fun f => ?_
    rw [held.empty.defn f, held.rig f]
    rfl
  generalize forEach allFlyers (loadFlyer bs) s = s4 at h4 defn rigs ⊢
  have clock4 : s4.clock = 0 := by rw [h4]; exact held.clock
  have empty4 (n : FormationId) : s4.formation n = none := by rw [h4]; exact held.empty.formation n
  obtain ⟨M, h5⟩ := loadFormations_frame bs clock4 empty4
  have formation := formation_loadFormations bs empty4
  generalize forEach allFormations (loadFormation bs) s4 = s5 at h5 formation ⊢
  have clock5 : s5.clock = 0 := by rw [h5]; exact clock4
  obtain ⟨Z, h6⟩ := loadZones_frame bs clock5
  have zone := zone_loadZones (s := s5) bs fun z => by
    rw [h5, h4]
    exact held.zone z
  generalize forEach allZones (loadZone bs) s5 = t at h6 zone ⊢
  have port_t (p : PortId) : t.port p = s.port p := by rw [h6, h5, h4]; rfl
  have axis_t (a : AxisId) : t.axis a = s4.axis a := by rw [h6, h5]; rfl
  have flyer_t (f : FlyerId) : t.flyer f = s4.flyer f := by rw [h6, h5]; rfl
  have flyer_5 (f : FlyerId) : t.flyer f = s5.flyer f := by rw [h6]; rfl
  have formation_t (n : FormationId) : t.formation n = s5.formation n := by rw [h6]; rfl
  have slots (p : PortId) : slotItem bs t p = slotItem bs s p := slotItem_congr (fun q => by rw [port_t]) bs p
  have flyers (f : FlyerId) : flyerItem bs t f = flyerItem bs s4 f :=
    flyerItem_congr (fun a => by rw [axis_t]) (fun g => by rw [flyer_t]) bs f
  have formations (n : FormationId) : formationItem bs t n = formationItem bs s5 n :=
    formationItem_congr (fun g => by rw [flyer_5]) formation_t bs n
  exact {
    mode := by rw [h6, h5, h4]; exact held.mode
    period := by rw [h6, h5, h4]; exact held.period
    next_period := by rw [h6, h5, h4]; exact held.next_period
    cutoff := by rw [h6, h5, h4]; exact held.cutoff
    dsep := by rw [h6, h5, h4]; exact held.dsep
    params := fun a => by rw [h6, h5, h4]; exact held.params a
    active := fun p => by rw [slots, port_t]; exact held.active p
    defn := fun f => by rw [flyers, flyer_t]; exact defn f
    rigs := fun f => by
      have same : paramsOf t = paramsOf s4 := funext fun a => congrArg Axis.params (axis_t a)
      rw [flyer_t, same]
      exact rigs f
    formation := fun n => by rw [formations, formation_t]; exact formation n
    zone := zone
    dir := by rw [h6, h5, h4]; exact held.dir
    log := by
      simp only [replacedItems, slots, flyers, formations, logItems_append]
      have mode : t.logMode = s.logMode := by rw [h6, h5, h4]
      have mode4 : s4.logMode = s.logMode := by rw [h4]
      have mode5 : s5.logMode = s.logMode := by rw [h5, h4]
      have log6 := congrArg State.log h6
      have log5 := congrArg State.log h5
      have log4 := congrArg State.log h4
      rw [mode5] at log6
      rw [mode4] at log5
      rw [mode, log6, log5, log4, held.log]
      simp only [logItems_append] }

theorem holdsImage_loadItems (bs : List Byte) (s : State) : HoldsImage bs (loadItems bs (poweredOn s)) :=
  holdsImage_of_tables (holdsTables_load bs s)
end Sys2Proof.Machine
end

section
/-! The state at the end of start-up, after either reset and by what the flash holds (R192 to R195). -/

namespace Sys2Proof.Machine

variable {o s c t : State} {bs : List Byte} {answers : Bool}

/-! ## What start-up leaves beside the configuration -/

theorem Started.settings (started : Started c t) :
    t.t = c.t ∧ t.cfgT = c.cfgT ∧ t.cutoff = c.cutoff ∧ t.logMode = c.logMode ∧ t.dsep = c.dsep ∧ t.dir = c.dir := by
  rw [started.frame]
  exact ⟨rfl, rfl, rfl, rfl, rfl, rfl⟩

theorem Started.records (started : Started c t) : t.formations = c.formations ∧ t.zones = c.zones := by
  rw [started.frame]
  exact ⟨rfl, rfl⟩

theorem Started.params (started : Started c t) (a : AxisId) : (t.axis a).params = (c.axis a).params := by
  rw [started.axis]

theorem Started.active (started : Started c t) (p : PortId) : (t.port p).active = (c.port p).active := by
  rw [started.port]

theorem Started.flyer (started : Started c t) (f : FlyerId) : t.flyer f = c.flyer f := by
  rw [started.frame]
  rfl

theorem Started.formation (started : Started c t) (n : FormationId) : t.formation n = c.formation n := by
  rw [started.frame]
  rfl

theorem Started.zone (started : Started c t) (z : ZoneId) : t.zone z = c.zone z := by
  rw [started.frame]
  rfl

theorem Started.port_eq (started : Started c t) (bare : Bare o c) (p : PortId) :
    t.port p = { Port.initial with active := (t.port p).active, shadow := (t.port p).active } := by
  rw [started.active, started.port, bare.port]

theorem Started.axis_eq (started : Started c t) (bare : Bare o c) (a : AxisId) :
    t.axis a =
      { Axis.initial with
        params := (t.axis a).params
        state := if ∃ p, (t.port p).active.has a = true then .unreferenced else .unmapped } := by
  simp only [started.active, started.params, ← mappedState_eq]
  rw [started.axis, bare.axis]

theorem Started.flyer_eq (started : Started c t) (bare : Bare o c) (f : FlyerId) :
    t.flyer f =
      { Flyer.initial with
        defn := (t.flyer f).defn, rig := (t.flyer f).rig
        state := if (t.flyer f).defn.isSome then .unready else .undefined } := by
  rw [started.flyer]
  exact bare.flyer f

theorem Started.station_eq (started : Started c t) (bare : Bare o c) (st : Station) : t.station st = StationPort.initial := by
  have same : t.station st = c.station st := by
    rw [started.frame]
    cases st <;> rfl
  exact same.trans (bare.station st)

/-! ## Logs and the image -/

/-- Every entry stamped at the start of the show clock. -/
def AtZero (log : List LogEntry) : Prop := ∀ e ∈ log, e.time = 0

theorem AtZero.logAfter {log : List LogEntry} {e : LogEntry} (zero : AtZero log) (now : e.time = 0) (mode : LogMode) :
    AtZero (logAfter mode log e) := by
  have appended {l : List LogEntry} (sub : ∀ x ∈ l, x ∈ log) : AtZero (l ++ [e]) := by
    intro x mem
    rcases List.mem_append.mp mem with old | new
    · exact zero x (sub x old)
    · rw [List.mem_singleton.mp new]
      exact now
  cases mode with
  | newest =>
    rw [Machine.logAfter]
    split
    · exact appended fun _ => id
    · exact appended fun _ => List.mem_of_mem_tail
  | first =>
    rw [Machine.logAfter]
    split
    · exact appended fun _ => id
    · exact zero
  | off => exact zero

theorem AtZero.logItems {log : List LogEntry} (zero : AtZero log) (mode : LogMode) (offsets : List Nat) :
    AtZero (logItems mode log offsets) := by
  induction offsets generalizing log with
  | nil => exact zero
  | cons n offsets ih => exact ih (zero.logAfter (e := replacedEntry n) rfl mode)

theorem Started.atZero (started : Started c t) (zero : AtZero c.log) : AtZero t.log := by
  rw [started.log]
  split
  · exact zero.logAfter rfl _
  · exact zero

/-- The flash does not answer, or holds no valid image. -/
theorem readImage_none (absent : answers = false ∨ ∀ bs, s.flash = .whole bs → imageValid bs = false) :
    readImage answers s = none := by
  unfold readImage
  cases area : s.flash with
  | whole bs =>
    rcases absent with silent | invalid
    · simp [silent]
    · simp [invalid bs area]
  | blank => rfl
  | body => rfl

theorem readImage_some (whole : s.flash = .whole bs) (valid : imageValid bs = true) : readImage true s = some bs := by
  simp [readImage, whole, valid]

/-! ## The configuration that start-up runs on -/

/-- The entry of a start-up without an image. -/
def defaultsEntry : LogEntry :=
  { time := 0, code := .imageDefaults, cls := .note, flyer := none, axis := none, station := none, port := none,
    detail := .none }

theorem loadImage_none (absent : readImage answers (poweredOn s) = none) :
    loadImage answers (poweredOn s) = { poweredOn s with log := [defaultsEntry] } := by
  rw [loadImage, absent]
  rfl

theorem loadImage_some (held : readImage answers (poweredOn s) = some bs) :
    loadImage answers (poweredOn s) = loadItems bs (poweredOn s) := by
  rw [loadImage, held]

/-- After a power-on start-up the configured period is that in force, and every entry is stamped 0. -/
theorem loadImage_period (answers : Bool) (s : State) :
    (loadImage answers (poweredOn s)).cfgT = (loadImage answers (poweredOn s)).t ∧
      AtZero (loadImage answers (poweredOn s)).log := by
  cases held : readImage answers (poweredOn s) with
  | none =>
    rw [loadImage_none held]
    exact ⟨rfl, fun e mem => by rw [List.mem_singleton.mp mem]; rfl⟩
  | some bs =>
    rw [loadImage_some held]
    have image := holdsImage_loadItems bs s
    refine ⟨image.next_period, ?_⟩
    rw [image.log]
    exact AtZero.logItems (fun e mem => by cases mem) _ _

/-- The configuration that the end of start-up runs on, by the reset that began it. -/
def startState (answers : Bool) (s : State) : State :=
  match s.startup with
  | .warm => warmed s
  | .powerOn | .running => loadImage answers (poweredOn s)

theorem bare_startState (answers : Bool) (s : State) : Bare s (startState answers s) := by
  unfold startState
  cases s.startup with
  | warm => exact bare_warmed s
  | powerOn | running => exact (bare_poweredOn s).loadImage answers

theorem exec_startUpEnd (starting : s.startup ≠ .running) :
    exec (.startUpEnd answers) s = .next (startRunning (startState answers s)) := by
  change execStartUpEnd answers s = _
  unfold execStartUpEnd startState
  cases phase : s.startup with
  | running => exact absurd phase starting
  | warm | powerOn => rfl

theorem startState_powerOn (begun : s.startup = .powerOn) : startState answers s = loadImage answers (poweredOn s) := by
  rw [startState, begun]

theorem startState_warm (begun : s.startup = .warm) : startState answers s = warmed s := by
  rw [startState, begun]

/-- The configuration of an image as start-up leaves it, with the entry of an open chain after those of the load. -/
structure EndsOnImage (bs : List Byte) (opened : Bool) (t : State) : Prop where
  mode : t.logMode = (logModeNamed (u8At bs 11)).getD .newest
  period : t.t = if periodInRange (u8At bs 8) = true then u8At bs 8 else 4
  cutoff : t.cutoff = if cutoffInRange (u16At bs 9) = true then u16At bs 9 else 1500
  dsep : t.dsep = if u16At bs 12 ≤ 10000 then u16At bs 12 else 0
  params : ∀ a, (t.axis a).params = (axisItem bs a).getD none
  active : ∀ p, (t.port p).active = (slotItem bs t p).getD Slots.initial
  defn : ∀ f, (t.flyer f).defn = (flyerItem bs t f).getD none
  rigs : RigsFormed t
  formation : ∀ n, t.formation n = (formationItem bs t n).getD none
  zone : ∀ z, t.zone z = (zoneItem bs z).getD Zone.initial
  dir : t.dir = []
  log : t.log =
    ((replacedItems bs t).map replacedEntry ++ if opened = true then [chainEntry] else []).foldl (logAfter t.logMode) []

theorem Started.endsOnImage (started : Started c t) (image : HoldsImage bs c) : EndsOnImage bs c.chainOpen t := by
  obtain ⟨period, -, cutoff, mode, dsep, dir⟩ := started.settings
  have slots (p : PortId) : slotItem bs t p = slotItem bs c p := slotItem_congr started.active bs p
  have flyers (f : FlyerId) : flyerItem bs t f = flyerItem bs c f :=
    flyerItem_congr started.params (fun g => by rw [started.flyer]) bs f
  have formations (n : FormationId) : formationItem bs t n = formationItem bs c n :=
    formationItem_congr (fun g => by rw [started.flyer]) started.formation bs n
  have params : paramsOf t = paramsOf c := funext started.params
  refine ⟨mode.trans image.mode, period.trans image.period, cutoff.trans image.cutoff, dsep.trans image.dsep,
    fun a => (started.params a).trans (image.params a), fun p => ?_, fun f => ?_, fun f => ?_, fun n => ?_,
    fun z => (started.zone z).trans (image.zone z), dir.trans image.dir, ?_⟩
  · rw [slots, started.active]
    exact image.active p
  · rw [flyers, started.flyer]
    exact image.defn f
  · rw [started.flyer, params]
    exact image.rigs f
  · rw [formations, started.formation]
    exact image.formation n
  · have same : replacedItems bs t = replacedItems bs c := by
      simp only [replacedItems, slots, flyers, formations]
    rw [started.log, image.log, mode, same, List.foldl_append]
    split <;> rfl

/-! ## The obligation -/

/-- Settles O50: the load of the image stage by stage, then the start on the configuration it leaves. -/
theorem startUpEndsInTheStatedState : Obligations.StartUpEndsInTheStatedState := by
  unfold Obligations.StartUpEndsInTheStatedState
  intro answers s
  refine ⟨fun runs => ?_, fun starting => ?_⟩
  · change execStartUpEnd answers s = _
    rw [execStartUpEnd, runs]
  have bare := bare_startState answers s
  have started := startRunning_started bare
  refine ⟨startRunning (startState answers s), exec_startUpEnd starting, ?_⟩
  generalize startRunning (startState answers s) = t at started ⊢
  have whole := started.frame
  refine ⟨congrArg State.startup whole, congrArg State.clock whole, (congrArg State.image whole).trans bare.image,
    (congrArg State.saveStep whole).trans bare.saveStep, (congrArg State.saveData whole).trans bare.saveData,
    (congrArg State.flash whole).trans bare.flash, (congrArg State.chainOpen whole).trans bare.chain, ?_, started.uncut,
    started.port_eq bare, started.station_eq bare, started.axis_eq bare,
    fun f => ⟨started.grant f, started.flyer_eq bare f⟩, ?_, fun warm => ?warm, fun on => ?on, fun on absent => ?defaults,
    fun on yes bs flash valid => ?image⟩
  · rw [started.alarm, bare.chain]
  · rw [started.allStop, bare.chain]
    rfl
  case warm =>
    rw [startState_warm warm] at started
    obtain ⟨period, next, cutoff, mode, dsep, dir⟩ := started.settings
    obtain ⟨formations, zones⟩ := started.records
    refine ⟨period, next, cutoff, mode, dsep, dir, formations, zones, fun a => ?_, fun p => ?_, fun f => ?_, started.log⟩
    · rw [started.params, axis_warmed]
      rfl
    · rw [started.active, port_warmed]
      rfl
    · rw [started.flyer, flyer_warmed]
      exact ⟨rfl, rfl⟩
  case on =>
    have loaded := loadImage_period answers s
    rw [← startState_powerOn on] at loaded
    obtain ⟨period, next, -⟩ := started.settings
    exact ⟨next.trans (loaded.1.trans period.symm), started.atZero loaded.2⟩
  case defaults =>
    rw [startState_powerOn on, loadImage_none (readImage_none absent)] at started
    obtain ⟨period, next, cutoff, mode, dsep, dir⟩ := started.settings
    refine ⟨period, next, cutoff, mode, dsep, dir, fun a => ?_, fun p => ?_, fun f => ?_, fun n => ?_, fun z => ?_, ?_⟩
    · exact (started.params a).trans (congrArg Axis.params (Vector.getElem_replicate a.isLt))
    · exact (started.active p).trans (congrArg Port.active (Vector.getElem_replicate p.isLt))
    · have initial : t.flyer f = Flyer.initial := (started.flyer f).trans (flyer_poweredOn s f)
      rw [initial]
      exact ⟨rfl, rfl⟩
    · exact (started.formation n).trans (Vector.getElem_replicate n.isLt)
    · exact (started.zone z).trans (Vector.getElem_replicate z.isLt)
    · refine started.log.trans ?_
      change (if s.chainOpen = true then [defaultsEntry, chainEntry] else [defaultsEntry]) = _
      split <;> rfl
  case image =>
    subst yes
    rw [startState_powerOn on, loadImage_some (readImage_some (by exact flash) valid)] at started
    have image := holdsImage_loadItems bs s
    have chain : (loadItems bs (poweredOn s)).chainOpen = s.chainOpen := ((bare_poweredOn s).loadItems bs).chain
    generalize loadItems bs (poweredOn s) = c at started image chain
    have final := started.endsOnImage image
    exact ⟨final.mode, final.period, final.cutoff, final.dsep, final.params, final.active,
      fun f => ⟨final.defn f, final.rigs f⟩, final.formation, final.zone, final.dir, by
        rw [← chain]
        exact final.log⟩
end Sys2Proof.Machine
end
